-- ==== Sys2Proof/Word.lean ====
section
/-! DEFINITION. The word types of the block: the 8-bit pattern (R12) and the duration (R12). -/

namespace Sys2Proof

/-- An unsigned 8-bit pattern, bit 0 the least significant (R12). -/
abbrev Byte := BitVec 8

/-- A duration in milliseconds, a rational (R12). That it is not negative is checked where a duration
enters the block (R37, D26), by `Duration.legal` of WellFormed.lean. -/
abbrev Duration := Rat

end Sys2Proof
end

