-- ==== Sys2Proof/Config.lean ====
section
/-! DEFINITION. What is fixed for the block (R8, R9, R10) and the free values the spec leaves to the
environment (R41): the glyph table, the draws, the power-on levels and the interleaving. -/

namespace Sys2Proof

/-- The construction-time parameters, the block's only control registers (R8, R37). A pin is a line
identifier; no rule depends on which number it is (R71). -/
structure Configuration where
  bitDelay  : Duration
  initDelay : Duration
  tick      : Duration
  debounce  : Duration
  pinData   : Nat
  pinLatch  : Nat
  pinClock  : Nat
  pinButton : Nat
  deriving DecidableEq, Repr

/-- The operand of `POWERON`: each field of the configuration supplied or left to its default (R173). -/
structure SuppliedConfig where
  bitDelay  : Option Duration := none
  initDelay : Option Duration := none
  tick      : Option Duration := none
  debounce  : Option Duration := none
  pinData   : Option Nat := none
  pinLatch  : Option Nat := none
  pinClock  : Option Nat := none
  pinButton : Option Nat := none
  deriving DecidableEq, Repr

/-- The levels and contents that the environment supplies at power-on (R251, first row). -/
structure PowerOnLevels where
  data  : Bool
  clock : Bool
  latch : Bool
  sr    : Byte
  q     : Byte
  deriving DecidableEq, Repr, Inhabited

/-- What happens next where nothing is scripted (R171, R251 "scheduling"): a step of the lifecycle
agent, a step of the roll agent, or one of the three events (R227). In `lifecycle stop`, `stop` says
whether the agent acts on a pending termination at this step, where it may (R178, U13). -/
inductive Move where
  | lifecycle (stop : Bool)
  | roll
  | press
  | release
  | term
  deriving DecidableEq, Repr, Inhabited

namespace Config

/-- The defaults of R8 and R37: 10 ms, 1 s, 25 ms, 100 ms; data 17, latch 27, clock 22, button 5. -/
def defaults : Configuration where
  bitDelay  := 10
  initDelay := 1000
  tick      := 25
  debounce  := 100
  pinData   := 17
  pinLatch  := 27
  pinClock  := 22
  pinButton := 5

/-- The configuration registers that `POWERON` writes: each field supplied, or its default (R173). -/
def resolve (c : SuppliedConfig) : Configuration where
  bitDelay  := c.bitDelay.getD defaults.bitDelay
  initDelay := c.initDelay.getD defaults.initDelay
  tick      := c.tick.getD defaults.tick
  debounce  := c.debounce.getD defaults.debounce
  pinData   := c.pinData.getD defaults.pinData
  pinLatch  := c.pinLatch.getD defaults.pinLatch
  pinClock  := c.pinClock.getD defaults.pinClock
  pinButton := c.pinButton.getD defaults.pinButton

/-- `BLANK`, the pattern of "no digit displayed" (R9, R38). -/
def blank : Byte := 0xFF

/-- `BLINK_ON`, 500 ms (R9). -/
def blinkOn : Duration := 500

/-- `BLINK_OFF`, 500 ms (R9). -/
def blinkOff : Duration := 500

/-- FREE VALUE, log entry 6: the glyph table (R10, R38, D8). Nothing is known of its ten values. -/
opaque glyph : Fin 10 → Byte

/-- FREE VALUE, log entry 7: the environment's answer to the draw made at a given value of the counter
`State.free` (R183, D15). Nothing is known of it but its range. -/
opaque draw : Nat → Fin 10

/-- FREE VALUE, log entry 4: the levels and contents found at power-on (R20, R173, D7, U3), at a given
value of the counter `State.free`. -/
opaque powerOn : Nat → PowerOnLevels

/-- FREE VALUE, log entry 22: the contents of the connected register's buffer while a cut frame has left
them arbitrary (R69, R225, U1, D20), at a given value of the counter `State.free`. -/
opaque glitchSr : Nat → Byte

/-- FREE VALUE, log entry 22: the connected register's outputs while a cut frame has left them arbitrary
(R69, R225, U1, D20), at a given value of the counter `State.free`. -/
opaque glitchQ : Nat → Byte

/-- FREE VALUE, log entry 3: the interleaving of agents and events (R171, R228, R251), at a given value
of the counter `State.free`. -/
opaque schedule : Nat → Move

end Config

end Sys2Proof
end

