-- ==== Sys2Proof/Syntax.lean ====
section
/-! DEFINITION. The 19 operations (R3, R99), one constructor for each row of spec/opcode_table.json, in
its order. The operands are abstract values beside the code (R99). -/

namespace Sys2Proof

/-- The operations of the block (R3). -/
inductive Instr where
  /-- `DATA_LO`, code 0b00000 (R122). -/
  | dataLo
  /-- `DATA_HI`, code 0b00001 (R121). -/
  | dataHi
  /-- `CLK_LO`, code 0b00010 (R124). -/
  | clkLo
  /-- `CLK_HI`, code 0b00011 (R123). -/
  | clkHi
  /-- `LAT_LO`, code 0b00100 (R126). -/
  | latLo
  /-- `LAT_HI`, code 0b00101 (R125). -/
  | latHi
  /-- `WAIT d`, code 0b00110 (R127). -/
  | wait (d : Duration)
  /-- `SHIFTOUT p`, code 0b01000 (R128). -/
  | shiftout (p : Byte)
  /-- `CLEAR`, code 0b01001 (R151). -/
  | clear
  /-- `SHOWDIGIT n`, code 0b01010; n is any integer (R152, R94). -/
  | showdigit (n : Int)
  /-- `RESET`, code 0b01011 (R153). -/
  | reset
  /-- `POWERON cfg`, code 0b10000 (R173). -/
  | poweron (c : SuppliedConfig)
  /-- `SETUP`, code 0b10001 (R174). -/
  | setup
  /-- `TICK`, code 0b10010 (R175). -/
  | tick
  /-- `PRESS`, code 0b10011 (R177). -/
  | press
  /-- `RELEASE`, code 0b10100 (R176). -/
  | release
  /-- `TERM`, code 0b10101 (R178). -/
  | term
  /-- `ROLL`, code 0b10110 (R180). -/
  | roll
  /-- `SHUTDOWN`, code 0b10111 (R179). -/
  | shutdown
  deriving DecidableEq, Repr

end Sys2Proof
end

