-- ==== Sys2Proof/WellFormed.lean ====
section
/-! DEFINITION. Which operands are legal: durations are not negative (R12, R37, D26) and the four line
identifiers of a configuration are distinct (R71, U5). -/

namespace Sys2Proof

/-- A legal duration is at least 0 (R12, R37). Said of the numerator, so that it is evaluated at once. -/
def Duration.legal (d : Duration) : Bool := decide (0 ≤ d.num)

/-- The four durations are legal (R37, D26). -/
def Configuration.durationsLegal (c : Configuration) : Bool :=
  Duration.legal c.bitDelay && Duration.legal c.initDelay && Duration.legal c.tick &&
    Duration.legal c.debounce

/-- The four line identifiers are distinct (R71). -/
def Configuration.pinsDistinct (c : Configuration) : Bool :=
  decide (c.pinData ≠ c.pinLatch ∧ c.pinData ≠ c.pinClock ∧ c.pinData ≠ c.pinButton ∧
    c.pinLatch ≠ c.pinClock ∧ c.pinLatch ≠ c.pinButton ∧ c.pinClock ≠ c.pinButton)

/-- A configuration that `POWERON` admits (R251 "or be refused"). -/
def Configuration.legal (c : Configuration) : Bool := c.durationsLegal && c.pinsDistinct

/-- The operands of an operation are legal. Every pattern (R101) and every integer digit (R94) is. -/
def Instr.wf : Instr → Bool
  | .dataLo => true
  | .dataHi => true
  | .clkLo => true
  | .clkHi => true
  | .latLo => true
  | .latHi => true
  | .wait d => Duration.legal d
  | .shiftout _ => true
  | .clear => true
  | .showdigit _ => true
  | .reset => true
  | .poweron c => (Config.resolve c).legal
  | .setup => true
  | .tick => true
  | .press => true
  | .release => true
  | .term => true
  | .roll => true
  | .shutdown => true

end Sys2Proof
end

