-- ==== Sys2Proof/Decode.lean ====
section
/-! DEFINITION. Operation words and their decoder and encoder, from the code table of R99. The spec
gives the block no command word (R90): a word of the model is the 5-bit code, in a byte whose upper
three bits are 0, with the operand as an abstract value beside it, as R99 has it (log entry 2). -/

namespace Sys2Proof

/-- The operand beside a code (R99, the column "operands"). -/
inductive Operand where
  | none
  | duration (d : Duration)
  | pattern (p : Byte)
  | digit (n : Int)
  | configuration (c : SuppliedConfig)
  deriving DecidableEq, Repr

/-- An operation word: the code `op[4:0]` in the low bits of a byte, and the operand beside it. -/
structure OpWord where
  code    : Byte
  operand : Operand
  deriving DecidableEq, Repr

/-- Why a word names no operation. -/
inductive DecodeError where
  /-- A bit above `op[4:0]` is set: the byte is no 5-bit code (R99). -/
  | notFiveBits
  /-- A code of R100, which names no operation. -/
  | reservedCode
  /-- The operand is not of the code's type (R99, U6). -/
  | operandMismatch
  deriving DecidableEq, Repr

/-- An operation without operand. -/
def decodeBare (i : Instr) : Operand → Except DecodeError Instr
  | .none => .ok i
  | _ => .error .operandMismatch

/-- `WAIT d`. -/
def decodeWait : Operand → Except DecodeError Instr
  | .duration d => .ok (.wait d)
  | _ => .error .operandMismatch

/-- `SHIFTOUT p`. -/
def decodeShiftout : Operand → Except DecodeError Instr
  | .pattern p => .ok (.shiftout p)
  | _ => .error .operandMismatch

/-- `SHOWDIGIT n`. -/
def decodeShowdigit : Operand → Except DecodeError Instr
  | .digit n => .ok (.showdigit n)
  | _ => .error .operandMismatch

/-- `POWERON cfg`. -/
def decodePoweron : Operand → Except DecodeError Instr
  | .configuration c => .ok (.poweron c)
  | _ => .error .operandMismatch

/-- The operation a word names (R99), or why it names none (R100). -/
def decode (w : OpWord) : Except DecodeError Instr :=
  match w.code.toNat with
  | 0b00000 => decodeBare .dataLo w.operand
  | 0b00001 => decodeBare .dataHi w.operand
  | 0b00010 => decodeBare .clkLo w.operand
  | 0b00011 => decodeBare .clkHi w.operand
  | 0b00100 => decodeBare .latLo w.operand
  | 0b00101 => decodeBare .latHi w.operand
  | 0b00110 => decodeWait w.operand
  | 0b01000 => decodeShiftout w.operand
  | 0b01001 => decodeBare .clear w.operand
  | 0b01010 => decodeShowdigit w.operand
  | 0b01011 => decodeBare .reset w.operand
  | 0b10000 => decodePoweron w.operand
  | 0b10001 => decodeBare .setup w.operand
  | 0b10010 => decodeBare .tick w.operand
  | 0b10011 => decodeBare .press w.operand
  | 0b10100 => decodeBare .release w.operand
  | 0b10101 => decodeBare .term w.operand
  | 0b10110 => decodeBare .roll w.operand
  | 0b10111 => decodeBare .shutdown w.operand
  | n => if n < 32 then .error .reservedCode else .error .notFiveBits

/-- The word of an operation (R99). -/
def encode : Instr → OpWord
  | .dataLo => ⟨0b00000, .none⟩
  | .dataHi => ⟨0b00001, .none⟩
  | .clkLo => ⟨0b00010, .none⟩
  | .clkHi => ⟨0b00011, .none⟩
  | .latLo => ⟨0b00100, .none⟩
  | .latHi => ⟨0b00101, .none⟩
  | .wait d => ⟨0b00110, .duration d⟩
  | .shiftout p => ⟨0b01000, .pattern p⟩
  | .clear => ⟨0b01001, .none⟩
  | .showdigit n => ⟨0b01010, .digit n⟩
  | .reset => ⟨0b01011, .none⟩
  | .poweron c => ⟨0b10000, .configuration c⟩
  | .setup => ⟨0b10001, .none⟩
  | .tick => ⟨0b10010, .none⟩
  | .press => ⟨0b10011, .none⟩
  | .release => ⟨0b10100, .none⟩
  | .term => ⟨0b10101, .none⟩
  | .roll => ⟨0b10110, .none⟩
  | .shutdown => ⟨0b10111, .none⟩

/-- The operand of zeros for a code: duration 0, pattern 0, digit 0, a configuration of which nothing
is supplied; no operand for every other code (log entry 2). -/
def zeroOperand (w : Nat) : Operand :=
  match w with
  | 0b00110 => .duration 0
  | 0b01000 => .pattern 0
  | 0b01010 => .digit 0
  | 0b10000 => .configuration {}
  | _ => .none

/-- The word of a table row, with the operand of zeros. A number that is no byte becomes a byte that
names no operation. -/
def tableWord (w : Nat) : OpWord :=
  ⟨if w < 256 then BitVec.ofNat 8 w else 0xFF, zeroOperand w⟩

/-- The operation the decoder reads from a row of spec/opcode_table.json whose bits are `w`. A code is
one byte, so `nbits` says nothing more. -/
def decodeTableWord (_nbits w : Nat) : Option Instr :=
  match decode (tableWord w) with
  | .ok i => some i
  | .error _ => none

end Sys2Proof
end

