-- ==== Sys2Proof/Machine/State.lean ====
section
/-! DEFINITION. The state of the block and of the connected register (R20), the reasons a step can
stop, and the state after power-on (R44). The block has no memory (R39). -/

namespace Sys2Proof.Machine

/-- The three output lines (R60). -/
inductive Line where
  | data
  | clock
  | latch
  deriving DecidableEq, Repr

/-- The controller's states, `CST` (R29). -/
inductive Cst where
  | uninit
  | setup
  | idle
  | rolling
  | shuttingDown
  | halted
  deriving DecidableEq, Repr

/-- Who waits, or calls a display operation: one of the two agents (R171), or a test harness that calls
the serializer directly (R238). -/
inductive Caller where
  | lifecycle
  | roll
  | harness
  deriving DecidableEq, Repr

/-- THE MODEL'S OWN (log entry 9): what is due next in the display operation that the controller has
called and that has not ended (R150). -/
inductive Flight where
  /-- No display operation of the controller is in flight. -/
  | idle
  /-- `RESET`: the write of `line` is due, in its opening or its closing `LINES_OFF` (R153, R154). -/
  | linesOff (line : Line) (closing : Bool)
  /-- A frame is running (`SACT` = 1), or is due (`SACT` = 0, after the opening `LINES_OFF` of `RESET`);
  `inReset` says that the closing `LINES_OFF` follows it (R153). -/
  | frame (inReset : Bool)
  deriving DecidableEq, Repr

/-- THE MODEL'S OWN (log entry 13): the durations of the waits each caller has ended, summed. A lower
bound on the time that has passed for it (R240), exact under ideal timing (R280). No rule reads it. -/
structure Waited where
  lifecycle : Duration
  roll      : Duration
  harness   : Duration
  deriving DecidableEq, Repr

/-- The machine: every row of R20's table under its own name, then the configuration registers of R37,
then the model's own fields. A level is a Bool, true for high (R14). -/
structure State where
  /-- `DATA`, the level last driven on the data line (R21). -/
  data        : Bool
  /-- `CLOCK`, the level last driven on the clock line (R22). -/
  clock       : Bool
  /-- `LATCH`, the level last driven on the latch line (R23). -/
  latch       : Bool
  /-- `PAT`, the pattern of the frame in flight (R24). -/
  pat         : Byte
  /-- `SACT`, a frame is in flight (R25). -/
  sact        : Bool
  /-- `SPC`, the index of the next micro-step of the frame program (R26). -/
  spc         : Fin 47
  /-- `SR`, the connected register's internal buffer (R27). -/
  sr          : Byte
  /-- `Q`, the connected register's outputs (R28). -/
  q           : Byte
  /-- `CST`, the controller's state (R29). -/
  cst         : Cst
  /-- `BUSY`, the re-entrancy guard (R30). -/
  busy        : Bool
  /-- `ARMED`, the button callbacks are subscribed (R31). -/
  armed       : Bool
  /-- `TERM_PENDING`, a termination signal has arrived (R32). -/
  termPending : Bool
  /-- `FINAL`, the final digit of the roll (R33). -/
  finalDigit  : Fin 10
  /-- `RTMP`, the digit of one spin step (R34). -/
  rtmp        : Fin 10
  /-- `RPC`, the index of the next action of the roll program (R35). -/
  rpc         : Fin 51
  /-- `LPC`, the index of the next action of the `SETUP` or `SHUTDOWN` program (R36). -/
  lpc         : Fin 3
  /-- The configuration registers (R37). -/
  cfg         : Configuration
  /-- The run is marked faulted: a frame has been cut (X5; R69, R225, U1). Never cleared. -/
  faulted     : Bool
  /-- The model's own: `SR` and `Q` are arbitrary since a frame was cut, and no frame has been entered
  with the clock low since (R225; log entry 22). -/
  garbled     : Bool
  /-- The model's own: the display operation the controller has in flight (log entry 9). -/
  flight      : Flight
  /-- The model's own: the block has been constructed, the guard of `POWERON` (R173; log entry 11). -/
  built       : Bool
  /-- The model's own: the operations that are issued next, the first one first (R251; log entry 1). -/
  script      : List OpWord
  /-- The model's own: the counter the free values of Config.lean are applied to (log entries 3, 4, 7,
  22). -/
  free        : Nat
  /-- The model's own: the durations waited (log entry 13). -/
  waited      : Waited
  deriving DecidableEq, Repr

/-- What stops the machine with a fault: nothing does. "No operation of the block raises an exception to
its caller, returns an error, or transfers control anywhere because of a condition" (R220), and a cut
frame marks the run and goes on (R225; `State.faulted`). -/
inductive Fault where
  deriving DecidableEq, Repr

/-- Why an operation is refused. -/
inductive Refusal where
  /-- `exec` has no meaning for the instruction. Raised by no arm of this model. Safe. -/
  | notModelled (mnemonic : String)
  /-- The word at the head of the script names no operation (R100, U6, U14). Raised by `step`. Safe. -/
  | undecodable (why : DecodeError)
  /-- A duration below 0, as the operand of `WAIT` (R127) or in a configuration (R37, D26). Raised by
  `WAIT` and `POWERON`. Safe. -/
  | negativeDuration
  /-- Two of the four line identifiers of a configuration are equal (R71, U5). Raised by `POWERON`.
  Safe. -/
  | clashingLines
  deriving DecidableEq, Repr

/-- The machine after power-on with the default configuration (R44, R261; log entry 17). The lines and
the connected register hold the free values of power-on (R20, log entry 4). `PAT`, `SPC`, `FINAL`,
`RTMP` and `RPC`, which the spec calls unwritten, hold 0: DESIGN CHOICE, unsafe, log entry 5. -/
def State.reset : State where
  data        := (Config.powerOn 0).data
  clock       := (Config.powerOn 0).clock
  latch       := (Config.powerOn 0).latch
  pat         := 0
  sact        := false
  spc         := 0
  sr          := (Config.powerOn 0).sr
  q           := (Config.powerOn 0).q
  cst         := .uninit
  busy        := true
  armed       := false
  termPending := false
  finalDigit  := 0
  rtmp        := 0
  rpc         := 0
  lpc         := 0
  cfg         := Config.defaults
  faulted     := false
  garbled     := false
  flight      := .idle
  built       := true
  script      := []
  free        := 1
  waited      := ⟨0, 0, 0⟩

end Sys2Proof.Machine
end

