-- ==== Sys2Proof/Machine/Operands.lean ====
section
/-! DEFINITION. How operands are read: the digit operand (R94, R96), the bits of a pattern (R97), the
delay of a spin step (R98), and the byte the connected register shifts to (R63). -/

namespace Sys2Proof.Machine

/-- `GlyphRead(n)`, for 0 <= n <= 9 (R96). -/
def glyphRead (n : Fin 10) : Byte := Config.glyph n

/-- `PatternOf(n)`: the glyph of a digit, `BLANK` for every other integer. The comparison is on
mathematical integers (R94, D18). -/
def patternOf (n : Int) : Byte :=
  if h : 0 ≤ n ∧ n ≤ 9 then glyphRead ⟨n.toNat, by omega⟩ else Config.blank

/-- `P[i] = (P >> i) & 1`, as a level (R12, R97). -/
def patternBit (p : Byte) (i : Nat) : Bool := p.getLsbD i

/-- `(DATA << 7) | (SR >> 1)`: the new bit enters at stage 7, the bit at stage 0 is lost (R63, R67). -/
def shiftIn (d : Bool) (sr : Byte) : Byte := ((BitVec.ofBool d).setWidth 8 <<< 7) ||| (sr >>> 1)

/-- `SpinDelay(k) = 5 ms * 2^k` (R98). -/
def spinDelay (k : Nat) : Duration := ((5 * 2 ^ k : Nat) : Rat)

/-- A new level of a line is a rising edge (R63, R64). -/
def rises (old new : Bool) : Bool := !old && new

/-- The next position of a program; the last position is kept (R12 "no rule steps it outside the range";
log entry 12). -/
def bump {n : Nat} (k : Fin n) : Fin n := if h : k.val + 1 < n then ⟨k.val + 1, h⟩ else k

end Sys2Proof.Machine
end

