-- ==== Sys2Proof/Machine/Flags.lean ====
section
/-! DEFINITION. What the one-bit registers decide: the guards of the operations (R227, and the guard
line of each rule of 42_controller.md). -/

namespace Sys2Proof.Machine

/-- The press guard, `ARMED = 1 and BUSY = 0` (R177). -/
def pressAccepted (s : State) : Bool := s.armed && !s.busy

/-- The guard of `TICK`, `CST` in {`IDLE`, `ROLLING`} (R175). -/
def tickEnabled (s : State) : Bool := s.cst == .idle || s.cst == .rolling

/-- The guard of `SHUTDOWN`, `TERM_PENDING` = 1 and `CST` in {`UNINIT`, `IDLE`} (R179). -/
def shutdownEnabled (s : State) : Bool := s.termPending && (s.cst == .uninit || s.cst == .idle)

/-- A display operation is in flight: none may begin (R129). -/
def inFlight (s : State) : Bool := s.sact || s.flight != .idle

end Sys2Proof.Machine
end

