-- ==== Sys2Proof/Machine/Ops.lean ====
section
/-! DEFINITION. The named operations over the state: the line write (R61), the wait (R240), the draw
(R183), moving a program on, and, in place of taking an exception and returning from one, the two entries
(R229, R230) and the return (R231). -/

namespace Sys2Proof.Machine

/-- What a line write does to a line and to a connected register whose contents are defined: the line is
set, and the register reacts to a rising edge of the clock (shift, R63) or of the latch (copy, R64), and
to nothing else (R61, R65). -/
def driveLine (l : Line) (v : Bool) (s : State) : State :=
  match l with
  | .data => { s with data := v }
  | .clock =>
      { s with clock := v, sr := if rises s.clock v then shiftIn s.data s.sr else s.sr }
  | .latch => { s with latch := v, q := if rises s.latch v then s.sr else s.q }

/-- While a cut frame has left the connected register arbitrary, no value is computed for it: both its
contents are free values, fresh at every line write (R225, U1; log entry 22). -/
def garble (s : State) : State :=
  { s with
    sr := if s.garbled then Config.glitchSr s.free else s.sr
    q := if s.garbled then Config.glitchQ s.free else s.q
    free := if s.garbled then s.free + 1 else s.free }

/-- `LineWrite(L, v)`: one indivisible step (R61). -/
def lineWrite (l : Line) (v : Bool) (s : State) : State := garble (driveLine l v s)

/-- X5, `CutFrame`: a second writer's line write inside a frame. The write takes place, the run is marked
faulted, and from then on `SR` and `Q` are arbitrary; the frame and the run go on (R69, R221, R225). -/
def cutFrame (l : Line) (v : Bool) (s : State) : State :=
  lineWrite l v { s with faulted := true, garbled := true }

/-- The sum of waits with one more wait of `c`. -/
def Waited.add (w : Waited) (c : Caller) (d : Duration) : Waited :=
  match c with
  | .lifecycle => { w with lifecycle := w.lifecycle + d }
  | .roll => { w with roll := w.roll + d }
  | .harness => { w with harness := w.harness + d }

/-- `Wait(d)`: changes no register of the block or of the connected register (R127, R240); only the
model's own sum of waits grows. -/
def await (c : Caller) (d : Duration) (s : State) : State := { s with waited := s.waited.add c d }

/-- `FINAL <- Draw(0, 9)` (R33, R183): the environment's answer is a free value. -/
def drawFinalDigit (s : State) : State :=
  { s with finalDigit := Config.draw s.free, free := s.free + 1 }

/-- `RTMP <- Draw(0, 9)` (R34, R183). -/
def drawSpinDigit (s : State) : State := { s with rtmp := Config.draw s.free, free := s.free + 1 }

/-- `RPC` advances by one (R180). -/
def advanceRpc (s : State) : State := { s with rpc := bump s.rpc }

/-- `LPC` advances by one (R174, R179). -/
def advanceLpc (s : State) : State := { s with lpc := bump s.lpc }

/-- The entry into a roll, one step: nothing is saved, `BUSY` masks further presses, control goes to
action 1 of the roll program (R177, R229). -/
def enterRoll (s : State) : State := { s with busy := true, cst := .rolling, rpc := 1 }

/-- The entry into teardown, action 0 of `SHUTDOWN`, one step (R179, R230). -/
def enterShutdown (s : State) : State :=
  { s with cst := .shuttingDown, armed := false, busy := false, lpc := 1 }

/-- The return to `IDLE`, which unmasks `PRESS`: the last action of `ROLL` (R180, R231) and of `SETUP`
(R174). -/
def returnToIdle (s : State) : State := { s with busy := false, cst := .idle }

/-- The end of the init delay, the lifecycle agent's own step in `UNINIT` (R173). -/
def endInitDelay (s : State) : State :=
  { await .lifecycle s.cfg.initDelay s with cst := .setup, lpc := 0 }

/-- Construction (R173): the configuration registers, the controller's registers, and the lines and the
connected register as the environment supplies them. The registers R20 calls unwritten are not written,
and a run marked faulted stays so (U1). -/
def construct (c : Configuration) (s : State) : State :=
  { s with
    cfg := c
    cst := .uninit
    busy := true
    armed := false
    termPending := false
    sact := false
    lpc := 0
    data := (Config.powerOn s.free).data
    clock := (Config.powerOn s.free).clock
    latch := (Config.powerOn s.free).latch
    sr := (Config.powerOn s.free).sr
    q := (Config.powerOn s.free).q
    garbled := false
    flight := .idle
    built := true
    free := s.free + 1 }

end Sys2Proof.Machine
end

