-- ==== Sys2Proof/Machine/Frame.lean ====
section
/-! DEFINITION. The frame program (R130), its micro-steps, a whole frame (R128), and the group of line
writes `LINES_OFF` (R154). -/

namespace Sys2Proof.Machine

/-- A micro-step of a display operation: a line write, or a wait of `BIT_DELAY` (R91, R127). -/
inductive MicroOp where
  | write (l : Line) (v : Bool)
  | wait
  deriving DecidableEq, Repr

/-- The frame program: the micro-step at position `k` of the frame of pattern `p` (R130). For
2 <= k <= 41 the bit in flight is `(k - 2) div 5` (R26). -/
def frameOp (p : Byte) (k : Fin 47) : MicroOp :=
  if k.val = 0 then .wait
  else if k.val = 1 then .write .latch false
  else if k.val < 42 then
    match (k.val - 2) % 5 with
    | 0 => .write .data (patternBit p ((k.val - 2) / 5))
    | 1 => .wait
    | 2 => .write .clock true
    | 3 => .wait
    | _ => .write .clock false
  else if k.val = 43 then .write .latch true
  else if k.val = 45 then .write .latch false
  else .wait

/-- The effect of one micro-step performed by `c`. -/
def microEffect (c : Caller) (m : MicroOp) (s : State) : State :=
  match m with
  | .write l v => lineWrite l v s
  | .wait => await c s.cfg.bitDelay s

/-- `PAT <- p ; SACT <- 1 ; SPC <- 0` (R128). A frame entered with the clock low defines the connected
register again, whatever it holds (R66, R225; log entry 22). -/
def beginFrame (p : Byte) (s : State) : State :=
  { s with pat := p, sact := true, spc := 0, garbled := s.garbled && s.clock }

/-- The micro-step at `SPC`, then `SPC` advances; after step 46 `SACT` becomes 0 (R130). -/
def frameStep (c : Caller) (s : State) : State :=
  let t := microEffect c (frameOp s.pat s.spc) s
  { t with spc := bump s.spc, sact := decide (s.spc.val ≠ 46) }

/-- A whole frame of pattern `p`, its 47 micro-steps one after another (R128). -/
def sendFrame (c : Caller) (p : Byte) (s : State) : State := (frameStep c)^[47] (beginFrame p s)

/-- `LINES_OFF = DATA_LO ; CLK_LO ; LAT_LO` (R154). -/
def linesOff (s : State) : State :=
  lineWrite .latch false (lineWrite .clock false (lineWrite .data false s))

end Sys2Proof.Machine
end

