-- ==== Sys2Proof/Machine/Display.lean ====
section
/-! DEFINITION. The display operations: as whole calls of their own (R128, R151, R152, R153), and as
calls by the controller, whose micro-steps the calling agent performs one at a time (R150). -/

namespace Sys2Proof.Machine

/-- A display operation called from outside the controller (R238): the whole synchronous call; while
another is in flight the caller is held and nothing is done for it (R129, U2). -/
def callDisplay (run : State → State) (s : State) : Host.Outcome State Fault Refusal :=
  if inFlight s then .next s else .next (run s)

/-- `SHIFTOUT p`: one frame (R128). -/
def execShiftout (p : Byte) (s : State) : Host.Outcome State Fault Refusal :=
  callDisplay (sendFrame .harness p) s

/-- `CLEAR`: the frame of `BLANK` (R151). -/
def execClear (s : State) : Host.Outcome State Fault Refusal :=
  callDisplay (sendFrame .harness Config.blank) s

/-- `SHOWDIGIT n`: the frame of `PatternOf(n)` (R152, R94). -/
def execShowdigit (n : Int) (s : State) : Host.Outcome State Fault Refusal :=
  callDisplay (sendFrame .harness (patternOf n)) s

/-- `RESET`: lines off, the frame of `BLANK`, lines off (R153). -/
def execReset (s : State) : Host.Outcome State Fault Refusal :=
  callDisplay (fun u => linesOff (sendFrame .harness Config.blank (linesOff u))) s

/-- What is due after the write of `l` in the opening or closing `LINES_OFF` of `RESET` (R153, R154). -/
def afterLineOff (l : Line) (closing : Bool) : Flight :=
  match l with
  | .data => .linesOff .clock closing
  | .clock => .linesOff .latch closing
  | .latch => if closing then .idle else .frame true

/-- The state in which a due frame is entered: after the opening `LINES_OFF` of `RESET` the frame of
`BLANK` begins with its micro-step 0 (R153). -/
def enterDueFrame (s : State) : State := if s.sact then s else beginFrame Config.blank s

/-- The next micro-step of the display operation in flight, performed by `c`; the last one ends the
operation (R150, R153). -/
def displayStep (c : Caller) (s : State) : State :=
  match s.flight with
  | .idle => s
  | .linesOff l closing => { lineWrite l false s with flight := afterLineOff l closing }
  | .frame inReset =>
      let t := frameStep c (enterDueFrame s)
      { t with
        flight := if t.sact then .frame inReset
          else if inReset then .linesOff .data true else .idle }

/-- The call of a frame of pattern `p`: what the first micro-step finds. -/
def startFrame (p : Byte) (s : State) : State := { beginFrame p s with flight := .frame false }

/-- The call of `RESET`: what the first micro-step finds. -/
def startReset (s : State) : State := { s with flight := .linesOff .data false }

/-- One step of an agent whose action is to call a display operation: the call with its first
micro-step, or the next micro-step; with the last one the action is `done` (R150). -/
def callStep (c : Caller) (start done : State → State) (s : State) : State :=
  let t := displayStep c (if s.flight = .idle then start s else s)
  if t.flight = .idle then done t else t

end Sys2Proof.Machine
end

