-- ==== Sys2Proof/Machine/Controller.lean ====
section
/-! DEFINITION. The controller's operations (R173 to R180). An operation whose guard does not hold
changes nothing (log entry 10). -/

namespace Sys2Proof.Machine

/-- The actions of the roll program (R180). -/
inductive RollAction where
  /-- `BUSY <- 1`, performed by the accepted `PRESS` (R177). -/
  | pressed
  | drawFinal
  | drawSpin
  | showSpin
  | sleep (d : Duration)
  | showFinal
  | blank
  /-- `BUSY <- 0 ; CST <- IDLE`. -/
  | finish
  deriving DecidableEq, Repr

/-- The roll program: the action at position `r` (R180). Spin step k is at 2+3k to 4+3k, blink cycle j
at 29+4j to 32+4j (R35). -/
def rollAction (r : Fin 51) : RollAction :=
  if r.val = 0 then .pressed
  else if r.val = 1 then .drawFinal
  else if r.val < 29 then
    match (r.val - 2) % 3 with
    | 0 => .drawSpin
    | 1 => .showSpin
    | _ => .sleep (spinDelay ((r.val - 2) / 3))
  else if r.val < 49 then
    match (r.val - 29) % 4 with
    | 0 => .showFinal
    | 1 => .sleep Config.blinkOn
    | 2 => .blank
    | _ => .sleep Config.blinkOff
  else if r.val = 49 then .showFinal
  else .finish

/-- One step of the roll agent in `ROLLING`: the action at `RPC`, or one micro-step of the display
operation it calls; `RPC` advances when the action is done (R180, R150). -/
def rollStep (s : State) : State :=
  match rollAction s.rpc with
  | .pressed => advanceRpc { s with busy := true }
  | .drawFinal => advanceRpc (drawFinalDigit s)
  | .drawSpin => advanceRpc (drawSpinDigit s)
  | .showSpin => callStep .roll (startFrame (patternOf s.rtmp.val)) advanceRpc s
  | .sleep d => advanceRpc (await .roll d s)
  | .showFinal => callStep .roll (startFrame (patternOf s.finalDigit.val)) advanceRpc s
  | .blank => callStep .roll (startFrame Config.blank) advanceRpc s
  | .finish => returnToIdle s

/-- One step of the lifecycle agent in `SETUP` (R174). -/
def setupStep (s : State) : State :=
  match s.lpc.val with
  | 0 => callStep .lifecycle startReset advanceLpc s
  | 1 => advanceLpc { s with armed := true }
  | _ => returnToIdle s

/-- One step of the lifecycle agent in `SHUTTING_DOWN` (R179). -/
def shutdownStep (s : State) : State :=
  match s.lpc.val with
  | 0 => enterShutdown s
  | 1 => callStep .lifecycle startReset advanceLpc s
  | _ => { s with cst := .halted }

/-- The step of the agent that calls display operations in this state (R171), nothing in a state in
which nobody does. -/
def callerStep (s : State) : State :=
  match s.cst with
  | .uninit => s
  | .setup => setupStep s
  | .idle => s
  | .rolling => rollStep s
  | .shuttingDown => shutdownStep s
  | .halted => s

/-- `POWERON cfg` (R173). A configuration that is not legal is refused (R71, D26); a block that exists
already is not constructed again (log entry 11). -/
def execPoweron (c : SuppliedConfig) (s : State) : Host.Outcome State Fault Refusal :=
  if !(Config.resolve c).durationsLegal then .refused .negativeDuration
  else if !(Config.resolve c).pinsDistinct then .refused .clashingLines
  else if s.built then .next s
  else .next (construct (Config.resolve c) s)

/-- `SETUP` (R174): the lifecycle agent's next step in the setup program. -/
def execSetup (s : State) : Host.Outcome State Fault Refusal :=
  .next (if s.cst = .setup then setupStep s else s)

/-- `TICK` (R175): a wait of `TICK`. -/
def execTick (s : State) : Host.Outcome State Fault Refusal :=
  .next (if tickEnabled s then await .lifecycle s.cfg.tick s else s)

/-- `PRESS` (R177): accepted, dropped or ignored, in one step. -/
def execPress (s : State) : Host.Outcome State Fault Refusal :=
  .next (if pressAccepted s then enterRoll s else s)

/-- `RELEASE` (R176): nothing, in every state. -/
def execRelease (s : State) : Host.Outcome State Fault Refusal := .next s

/-- `TERM` (R178). -/
def execTerm (s : State) : Host.Outcome State Fault Refusal := .next { s with termPending := true }

/-- `ROLL` (R180): the roll agent's next step in the roll program. -/
def execRoll (s : State) : Host.Outcome State Fault Refusal :=
  .next (if s.cst = .rolling then rollStep s else s)

/-- `SHUTDOWN` (R179): action 0 where it is enabled, the lifecycle agent's next step of the program in
`SHUTTING_DOWN`. -/
def execShutdown (s : State) : Host.Outcome State Fault Refusal :=
  .next (if s.cst = .shuttingDown then shutdownStep s
    else if shutdownEnabled s then enterShutdown s else s)

end Sys2Proof.Machine
end

