-- ==== Sys2Proof/Machine/Lines.lean ====
section
/-! DEFINITION. The line micro-operations (R121 to R127). Each is its line write (or wait). Inside a
display operation in flight it is that operation's own micro-step if it is the one due there (R120,
R130; log entry 14); any other line write is a second writer's, which cuts the frame if one is running
(`SACT` = 1; R225), and in the `LINES_OFF` parts of `RESET` is a line write like any other (R61). -/

namespace Sys2Proof.Machine

/-- The micro-step that is due in the display operation in flight, if one is (R130, R153). -/
def dueMicroOp (s : State) : Option MicroOp :=
  match s.flight with
  | .idle => none
  | .linesOff l _ => some (.write l false)
  | .frame _ => some (if s.sact then frameOp s.pat s.spc else .wait)

/-- The line write cuts a frame: one is running, from its step 0 to its step 46, and the write is not the
frame's own (X5; R221, R225). -/
def cutsFrame (l : Line) (v : Bool) (s : State) : Bool :=
  s.sact && dueMicroOp s != some (.write l v)

/-- A line write as an operation. -/
def lineOperation (l : Line) (v : Bool) (s : State) : Host.Outcome State Fault Refusal :=
  if dueMicroOp s = some (.write l v) then .next (callerStep s)
  else if cutsFrame l v s then .next (cutFrame l v s)
  else .next (lineWrite l v s)

/-- `DATA_LO` (R122). -/
def execDataLo (s : State) : Host.Outcome State Fault Refusal := lineOperation .data false s

/-- `DATA_HI` (R121). -/
def execDataHi (s : State) : Host.Outcome State Fault Refusal := lineOperation .data true s

/-- `CLK_LO` (R124). -/
def execClkLo (s : State) : Host.Outcome State Fault Refusal := lineOperation .clock false s

/-- `CLK_HI` (R123). -/
def execClkHi (s : State) : Host.Outcome State Fault Refusal := lineOperation .clock true s

/-- `LAT_LO` (R126). -/
def execLatLo (s : State) : Host.Outcome State Fault Refusal := lineOperation .latch false s

/-- `LAT_HI` (R125). -/
def execLatHi (s : State) : Host.Outcome State Fault Refusal := lineOperation .latch true s

/-- `WAIT d` (R127): the micro-step that is due, where a frame in flight waits for exactly this
duration; else a wait of its caller, which changes no register and disturbs no frame. A negative
duration is refused (R37, R127). -/
def execWait (d : Duration) (s : State) : Host.Outcome State Fault Refusal :=
  if !Duration.legal d then .refused .negativeDuration
  else if dueMicroOp s = some .wait ∧ d = s.cfg.bitDelay then .next (callerStep s)
  else .next (await .harness d s)

end Sys2Proof.Machine
end

