-- ==== Sys2Proof/Machine/Dispatch.lean ====
section
/-! DEFINITION. Which meaning each operation has: one arm per constructor of Instr. -/

namespace Sys2Proof.Machine

def exec (i : Instr) (s : State) : Host.Outcome State Fault Refusal :=
  match i with
  | .dataLo => Sys2Proof.Machine.execDataLo s
  | .dataHi => Sys2Proof.Machine.execDataHi s
  | .clkLo => Sys2Proof.Machine.execClkLo s
  | .clkHi => Sys2Proof.Machine.execClkHi s
  | .latLo => Sys2Proof.Machine.execLatLo s
  | .latHi => Sys2Proof.Machine.execLatHi s
  | .wait d => Sys2Proof.Machine.execWait d s
  | .shiftout p => Sys2Proof.Machine.execShiftout p s
  | .clear => Sys2Proof.Machine.execClear s
  | .showdigit n => Sys2Proof.Machine.execShowdigit n s
  | .reset => Sys2Proof.Machine.execReset s
  | .poweron c => Sys2Proof.Machine.execPoweron c s
  | .setup => Sys2Proof.Machine.execSetup s
  | .tick => Sys2Proof.Machine.execTick s
  | .press => Sys2Proof.Machine.execPress s
  | .release => Sys2Proof.Machine.execRelease s
  | .term => Sys2Proof.Machine.execTerm s
  | .roll => Sys2Proof.Machine.execRoll s
  | .shutdown => Sys2Proof.Machine.execShutdown s

end Sys2Proof.Machine
end

