-- ==== Sys2Proof/Machine/Schedule.lean ====
section
/-! DEFINITION. What happens next: the operation at the head of the script (log entry 1), or, where
nothing is scripted, the move the environment chooses (R171, R228, R251; log entry 3). -/

namespace Sys2Proof.Machine

/-- The lifecycle agent's step in each state (R171), of a block that exists. `stop` says that it acts on
a pending termination where it may: in `UNINIT` and `IDLE` (R178, R179). -/
def lifecycleMove (stop : Bool) (s : State) : Host.Outcome State Fault Refusal :=
  if !s.built then .next s
  else if stop && shutdownEnabled s then exec .shutdown s
  else
    match s.cst with
    | .uninit => .next (endInitDelay s)
    | .setup => exec .setup s
    | .idle => exec .tick s
    | .rolling => exec .tick s
    | .shuttingDown => exec .shutdown s
    | .halted => .next s

/-- One move of an agent or of the environment (R171, R227). -/
def makeMove (m : Move) (s : State) : Host.Outcome State Fault Refusal :=
  match m with
  | .lifecycle stop => lifecycleMove stop s
  | .roll => exec .roll s
  | .press => exec .press s
  | .release => exec .release s
  | .term => exec .term s

/-- The operation is a call of a display operation (R103). -/
def isDisplayCall : Instr → Bool
  | .shiftout _ => true
  | .clear => true
  | .showdigit _ => true
  | .reset => true
  | _ => false

/-- What goes on while a scripted operation is held (log entry 15): a display call waits for the display
operation in flight to end (R129, U2), and `SETUP` in `UNINIT` waits for the init delay (R173). -/
def waitingStep (i : Instr) (s : State) : Option State :=
  if isDisplayCall i && inFlight s then some (callerStep s)
  else
    match i with
    | .setup => if s.built && s.cst == .uninit then some (endInitDelay s) else none
    | _ => none

/-- A scripted operation is held. -/
def held (i : Instr) (s : State) : Bool := (waitingStep i s).isSome

/-- The program that a scripted operation runs has not reached its end (R174, R179, R180). -/
def unfinished (i : Instr) (s : State) : Bool :=
  match i with
  | .setup => s.cst == .setup
  | .roll => s.cst == .rolling
  | .shutdown => s.cst == .shuttingDown
  | _ => false

/-- The word of an operation whose program has not reached its end stays at the head of the script, so
that a script is a sequence of whole operations, as in the programs of 95_test_vectors.md. -/
def keepUnfinished (w : OpWord) (i : Instr) (s : State) : State :=
  { s with script := if unfinished i s then w :: s.script else s.script }

/-- One step of the machine. A scripted operation is taken from the script and executed, one step of it
at a time; while it is held it stays, and what it waits for goes on. A word that names no operation is
refused (R100). With nothing scripted the environment chooses a move. -/
def advance (s : State) : Host.Outcome State Fault Refusal :=
  match s.script with
  | w :: rest =>
      match decode w with
      | .ok i =>
          match waitingStep i s with
          | some t => .next t
          | none =>
              match exec i { s with script := rest } with
              | .next t => .next (keepUnfinished w i t)
              | .fault f => .fault f
              | .refused r => .refused r
      | .error e => .refused (.undecodable e)
  | [] => makeMove (Config.schedule s.free) { s with free := s.free + 1 }

/-- `s` with the operation of a table row as the next thing scripted. `POWERON` constructs the block, so
it is placed with the block not yet constructed (log entry 11); `SETUP` runs after the init delay, so in
`UNINIT` it is placed with the delay ended (R173; log entry 1). -/
def place (w : Nat) (s : State) : State :=
  { s with
    script := tableWord w :: s.script
    built := s.built && decide (w ≠ 0b10000)
    cst := if w = 0b10001 ∧ s.cst = .uninit then .setup else s.cst }

end Sys2Proof.Machine
end

