-- ==== Sys2Proof/Machine/Step.lean ====
section
/-! DEFINITION. One step of the machine, and the placing of an operation as the next one to be run. -/

namespace Sys2Proof.Machine

/-- One step (R171, R251). -/
def step (s : State) : Host.Outcome State Fault Refusal := advance s

/-- `s` with the operation of a row of spec/opcode_table.json placed where `step` takes its next
operation from; a code is one byte, so `nbits` says nothing more (log entries 1, 2, 11). -/
def State.withFetchWord (s : State) (_nbits w : Nat) : State := place w s

end Sys2Proof.Machine
end

