-- ==== Sys2Proof/Safety.lean ====
section
/-! DEFINITION. The conditions of R221 that an operation meets, and what a good run never meets. -/

namespace Sys2Proof.Safety

open Sys2Proof.Machine

/-- The error-like conditions (R221, labels X1 to X3 and X5). X4, a line that could not be acquired, is
outside the model (R226). -/
inductive Condition where
  | outOfRangeDigit
  | reentrantPress
  | termination
  | cutFrame
  deriving DecidableEq, Repr

/-- The condition that a line write meets (R225). -/
def lineCondition (l : Line) (v : Bool) (s : State) : Option Condition :=
  if cutsFrame l v s then some .cutFrame else none

/-- The condition an operation meets in a state, if it meets one; an operation never meets two (R228).
Nothing is recorded of X1, X2 and X3 (R222, R223, R224); X5 marks the run faulted (R225). -/
def conditionOf (i : Instr) (s : State) : Option Condition :=
  match i with
  | .showdigit n => if 0 ≤ n ∧ n ≤ 9 then none else some .outOfRangeDigit
  | .press => if s.armed && s.busy then some .reentrantPress else none
  | .term => some .termination
  | .dataLo => lineCondition .data false s
  | .dataHi => lineCondition .data true s
  | .clkLo => lineCondition .clock false s
  | .clkHi => lineCondition .clock true s
  | .latLo => lineCondition .latch false s
  | .latHi => lineCondition .latch true s
  | _ => none

/-- A condition that makes a run a bad one: only X5 does (R222, R223, R224, R225). -/
def Condition.isFault : Condition → Bool
  | .cutFrame => true
  | _ => false

/-- The operation is a step of one of the two agents, or an event (R104, R171): not the construction of
the block, and nothing that a harness does to the serializer itself. -/
def isOwn : Instr → Bool
  | .setup => true
  | .tick => true
  | .press => true
  | .release => true
  | .term => true
  | .roll => true
  | .shutdown => true
  | _ => false

/-- The script holds such operations only: the run is one of the block itself. -/
def ownScript (s : State) : Prop := ∀ w ∈ s.script, ∃ i, decode w = .ok i ∧ isOwn i = true

/-- The next step is at most one line write: no display operation that runs whole in one step (log entry
8), and no construction. -/
def singleStep (s : State) : Prop :=
  ∀ w rest i, s.script = w :: rest → decode w = .ok i →
    (isDisplayCall i = true → inFlight s = true) ∧ ∀ c, i ≠ .poweron c

/-- A step that goes on. -/
def goesOn (s : State) : Prop := ∃ t, step s = .next t

/-- A run of `k` steps that neither faults nor is refused. -/
def runs (k : Nat) (s : State) : Prop := ∃ t, Host.Core.run Sys2Proof.core k s = .next t

/-- `k` executions of one operation one after another, stopping at the first that does not go on. -/
def repeatOp (i : Instr) : Nat → State → Host.Outcome State Fault Refusal
  | 0, s => .next s
  | k + 1, s =>
      match exec i s with
      | .next t => repeatOp i k t
      | o => o

/-- The safe end state: every line low and no digit shown (R263). -/
def safeOff (s : State) : Prop :=
  s.data = false ∧ s.clock = false ∧ s.latch = false ∧ s.sr = Config.blank ∧ s.q = Config.blank

/-- The action is a call of a display operation (R180). -/
def isCallAction : RollAction → Bool
  | .showSpin => true
  | .showFinal => true
  | .blank => true
  | _ => false

/-- The duration of a sleep of the roll program (R182). -/
def sleepOf : RollAction → Option Duration
  | .sleep d => some d
  | _ => none

/-- The sleeps of one roll, in order (R182). -/
def rollSleeps : List Duration := (List.finRange 51).filterMap fun r => sleepOf (rollAction r)

/-- The pattern that the display operation called at this point of the roll sends (R180). -/
def calledPattern (s : State) : Byte :=
  match rollAction s.rpc with
  | .showSpin => patternOf s.rtmp.val
  | .showFinal => patternOf s.finalDigit.val
  | _ => Config.blank

/-- What the flags and positions of the controller satisfy (R42 items 3 to 5; R31, R32, R35, R36), with
what the model's own `flight` adds: a display operation is in flight only where the program calls one. -/
structure ControlInv (s : State) : Prop where
  busy_iff : s.busy = true ↔ s.cst = .uninit ∨ s.cst = .setup ∨ s.cst = .rolling
  armed_iff : s.armed = true ↔ s.cst = .idle ∨ s.cst = .rolling ∨ (s.cst = .setup ∧ s.lpc.val = 2)
  sact_frame : s.sact = true → s.flight = .frame false ∨ s.flight = .frame true
  flight_called : s.flight ≠ .idle →
    (s.cst = .setup ∧ s.lpc.val = 0 ∧ s.flight ≠ .frame false) ∨
    (s.cst = .shuttingDown ∧ s.lpc.val = 1 ∧ s.flight ≠ .frame false) ∨
    (s.cst = .rolling ∧ isCallAction (rollAction s.rpc) = true ∧ s.flight = .frame false ∧
      s.sact = true)
  term_acted : s.cst = .shuttingDown ∨ s.cst = .halted → s.termPending = true
  rpc_pos : s.cst = .rolling → s.rpc.val ≠ 0
  lpc_pos : s.cst = .shuttingDown → s.lpc.val ≠ 0

/-- How many bits of the pattern have been shifted in when micro-step `k` is due (R92, R130). -/
def clocksDone (k : Nat) : Nat := min 8 (k / 5)

/-- What the lines and the connected register satisfy while a frame runs that has not been cut, by the
position of the next micro-step (R66, R92, R130, R135). -/
structure FrameInv (s : State) : Prop where
  clean : s.garbled = false
  clock_high : s.clock = decide (5 ≤ s.spc.val ∧ s.spc.val ≤ 41 ∧ s.spc.val % 5 ≤ 1)
  latch_high : s.latch = decide (s.spc.val = 44 ∨ s.spc.val = 45)
  data_bit : 3 ≤ s.spc.val → s.data = patternBit s.pat (min 7 ((s.spc.val - 3) / 5))
  shifted : s.sr.toNat / 2 ^ (8 - clocksDone s.spc.val) = s.pat.toNat % 2 ^ clocksDone s.spc.val
  copied : 44 ≤ s.spc.val → s.q = s.pat

/-- The display has been brought to a known pattern by the first `RESET`, and no display operation is
in flight (R42 items 1 and 2, R262, R265). -/
def displayKnown (s : State) : Prop :=
  s.flight = .idle ∧
    (s.cst = .idle ∨ s.cst = .rolling ∨ s.cst = .halted ∨ (s.cst = .setup ∧ s.lpc.val ≠ 0) ∨
      (s.cst = .shuttingDown ∧ s.lpc.val = 2))

/-- A `RESET` is the last display operation that has run (R262, R263). -/
def justReset (s : State) : Prop :=
  s.flight = .idle ∧
    (s.cst = .halted ∨ (s.cst = .setup ∧ s.lpc.val ≠ 0) ∨ (s.cst = .shuttingDown ∧ s.lpc.val = 2))

/-- What the lines and the connected register satisfy at every point of a run of the block itself
(R42 items 1 and 2, R66, R153, R185, R262, R263). -/
structure LineInv (s : State) : Prop where
  in_frame : s.sact = true → FrameInv s
  reset_pattern : s.sact = true → s.flight = .frame true → s.pat = Config.blank
  roll_pattern : s.sact = true → s.flight = .frame false → s.pat = calledPattern s
  clock_due : ∀ c, s.flight = .linesOff .clock c → s.data = false
  latch_due : ∀ c, s.flight = .linesOff .latch c → s.data = false ∧ s.clock = false
  frame_due : s.flight = .frame true → s.sact = false →
    s.data = false ∧ s.clock = false ∧ s.latch = false
  closing : ∀ l, s.flight = .linesOff l true →
    s.garbled = false ∧ s.clock = false ∧ s.latch = false ∧ s.sr = Config.blank ∧ s.q = Config.blank
  known : displayKnown s → s.garbled = false ∧ s.clock = false ∧ s.latch = false ∧ s.sr = s.q
  after_reset : justReset s → safeOff s
  roll_end : s.cst = .rolling → s.flight = .idle → s.rpc.val = 50 → s.q = patternOf s.finalDigit.val

end Sys2Proof.Safety
end

