-- ==== Sys2Proof/Certificates/Slice0/Obligations.lean ====
section
/-! DEFINITION. The statements for the provers. Each docstring names the rule of spec/ that it states,
or the sections it rests on. -/

open Sys2Proof Sys2Proof.Machine Sys2Proof.Safety

/-! ## Encoding -/

/-- R99's table is read and written alike: the word of an operation decodes to it, whatever its
operand. Model's own form of a word: log entry 2. -/
def Obligations.DecodeOfEncode : Prop := ∀ i : Instr, decode (encode i) = .ok i

/-- No two words name one operation, and the decoder drops no bit and no operand (R99). The model's own
form of a word: log entry 2. -/
def Obligations.EncodeOfDecode : Prop :=
  ∀ (w : OpWord) (i : Instr), decode w = .ok i → encode i = w

/-- Codes of R99's table, one or more from each group. The model's own operands of zeros: log entry 2. -/
def Obligations.TableCodesDecode : Prop :=
  decodeTableWord 8 0b00001 = some .dataHi ∧ decodeTableWord 8 0b00010 = some .clkLo ∧
  decodeTableWord 8 0b00101 = some .latHi ∧ decodeTableWord 8 0b00110 = some (.wait 0) ∧
  decodeTableWord 8 0b01000 = some (.shiftout 0) ∧ decodeTableWord 8 0b01011 = some .reset ∧
  decodeTableWord 8 0b10011 = some .press ∧ decodeTableWord 8 0b10111 = some .shutdown

/-- R100: the unassigned codes name no operation, with whatever operand, and are refused. That they are
refused is the spec's decision D17. -/
def Obligations.UnassignedCodesRefused : Prop :=
  ∀ (w : OpWord) (rest : List OpWord) (s : State),
    (w.code.toNat = 0b00111 ∨ (0b01100 ≤ w.code.toNat ∧ w.code.toNat ≤ 0b01111) ∨
      (0b11000 ≤ w.code.toNat ∧ w.code.toNat ≤ 0b11111)) →
    s.script = w :: rest →
    decode w = .error .reservedCode ∧ step s = .refused (.undecodable .reservedCode)

/-! ## Step -/

/-- A scripted operation that is not held is taken from the script and executed; its word stays while
the program of `SETUP`, `ROLL` or `SHUTDOWN` has not reached its end (the model's own: log entry 1).
With nothing scripted a step is the move that the environment chooses, a step of an agent or an event
(R171, R251; the choice is the free value of log entry 3). -/
def Obligations.StepRunsScriptOrMove : Prop :=
  (∀ (s : State) (w : OpWord) (rest : List OpWord) (i : Instr),
    s.script = w :: rest → decode w = .ok i → held i s = false →
    (∀ t, exec i { s with script := rest } = .next t →
      step s = .next { t with
        script := if (i = .setup ∧ t.cst = .setup) ∨ (i = .roll ∧ t.cst = .rolling) ∨
            (i = .shutdown ∧ t.cst = .shuttingDown)
          then w :: t.script else t.script }) ∧
    (∀ r, exec i { s with script := rest } = .refused r → step s = .refused r)) ∧
  (∀ s : State, s.script = [] →
    step s = makeMove (Config.schedule s.free) { s with free := s.free + 1 }) ∧
  (∀ s : State,
    makeMove .roll s = exec .roll s ∧ makeMove .press s = exec .press s ∧
    makeMove .release s = exec .release s ∧ makeMove .term s = exec .term s ∧
    ∀ stop, makeMove (.lifecycle stop) s = lifecycleMove stop s)

/-- R173: what a scripted `SETUP` waits for in `UNINIT`: the separate step of the lifecycle agent that
ends the init delay (log entry 15). -/
def Obligations.StepEndsInitDelay : Prop :=
  ∀ (s : State) (w : OpWord) (rest : List OpWord),
    s.script = w :: rest → decode w = .ok .setup → s.built = true → s.cst = .uninit →
    step s = .next { s with
      cst := .setup, lpc := 0
      waited := { s.waited with lifecycle := s.waited.lifecycle + s.cfg.initDelay } }

/-- R129: a display operation requested while one is in flight is held: it does nothing, it stays
requested, and the operation in flight goes on. How a caller is held: log entry 15. -/
def Obligations.StepHoldsDisplayCall : Prop :=
  ∀ (s : State) (w : OpWord) (rest : List OpWord) (i : Instr),
    s.script = w :: rest → decode w = .ok i → isDisplayCall i = true → inFlight s = true →
    exec i s = .next s ∧ step s = .next (callerStep s) ∧ (callerStep s).script = w :: rest

/-- R129 and U2: the hold is lifted by the last step of the operation in flight, after at most 53 steps.
How a caller is held: log entry 15. -/
def Obligations.HoldIsLifted : Prop :=
  ∀ (s : State) (w : OpWord) (rest : List OpWord) (i : Instr),
    ControlInv s → s.script = w :: rest → decode w = .ok i → isDisplayCall i = true →
    ∃ k t, k ≤ 53 ∧ Host.Core.run Sys2Proof.core k s = .next t ∧ inFlight t = false ∧
      t.script = w :: rest

/-- What the lifecycle agent does in each state, at a step at which it does not act on a pending
termination, and at one at which it does (R171, R173, R178). The model's own: the sum of waits (log
entry 13). When it acts on one: log entry 3. -/
def Obligations.LifecycleAgentMoves : Prop :=
  ∀ s : State, s.built = true →
    (s.cst = .uninit → lifecycleMove false s =
      .next { s with
        cst := .setup, lpc := 0
        waited := { s.waited with lifecycle := s.waited.lifecycle + s.cfg.initDelay } }) ∧
    (s.cst = .setup → ∀ stop, lifecycleMove stop s = exec .setup s) ∧
    (s.cst = .idle → lifecycleMove false s = exec .tick s) ∧
    (s.cst = .rolling → ∀ stop, lifecycleMove stop s = exec .tick s) ∧
    (s.cst = .shuttingDown → ∀ stop, lifecycleMove stop s = exec .shutdown s) ∧
    (s.cst = .halted → ∀ stop, lifecycleMove stop s = .next s) ∧
    (s.termPending = true → s.cst = .uninit ∨ s.cst = .idle →
      lifecycleMove true s = exec .shutdown s)

/-! ## Lines -/

/-- R61, R63, R64: each line write, where no frame is running and it is not the due micro-step of a
display operation, sets its line, and a rising edge of the clock shifts, a rising edge of the latch
copies; everything else is unchanged. The edges and the stage numbering are the spec's decisions D5 and
D6 (log entry 19); which write is a due micro-step is log entry 14. -/
def Obligations.LineWritesReact : Prop :=
  ∀ s : State, s.sact = false → s.garbled = false →
    (dueMicroOp s ≠ some (.write .data true) → exec .dataHi s = .next { s with data := true }) ∧
    (dueMicroOp s ≠ some (.write .data false) → exec .dataLo s = .next { s with data := false }) ∧
    (dueMicroOp s ≠ some (.write .clock true) → exec .clkHi s = .next { s with
      clock := true
      sr := if s.clock = false
        then ((BitVec.ofBool s.data).setWidth 8 <<< 7) ||| (s.sr >>> 1) else s.sr }) ∧
    (dueMicroOp s ≠ some (.write .clock false) → exec .clkLo s = .next { s with clock := false }) ∧
    (dueMicroOp s ≠ some (.write .latch true) → exec .latHi s = .next { s with
      latch := true, q := if s.latch = false then s.sr else s.q }) ∧
    (dueMicroOp s ≠ some (.write .latch false) → exec .latLo s = .next { s with latch := false })

/-- A line write that is the due micro-step of the display operation in flight is that micro-step (R120,
R130; log entry 14). Every other line write inside a frame cuts it: the line is set, the run is marked
faulted, `SR` and `Q` become arbitrary, and the run goes on; and while they are arbitrary every line
write leaves them so (R69, R221, R225; the free values: log entry 22). -/
def Obligations.LineWritesInFlightOrGarbled : Prop :=
  ∀ (s : State) (l : Line) (v : Bool) (i : Instr),
    (i, l, v) ∈ [(Instr.dataLo, Line.data, false), (.dataHi, .data, true), (.clkLo, .clock, false),
      (.clkHi, .clock, true), (.latLo, .latch, false), (.latHi, .latch, true)] →
    (dueMicroOp s = some (.write l v) → exec i s = .next (callerStep s)) ∧
    (dueMicroOp s ≠ some (.write l v) → s.sact = true ∨ s.garbled = true →
      exec i s = .next { s with
        data := if l = .data then v else s.data
        clock := if l = .clock then v else s.clock
        latch := if l = .latch then v else s.latch
        sr := Config.glitchSr s.free, q := Config.glitchQ s.free, free := s.free + 1
        garbled := true, faulted := s.faulted || s.sact })

/-- The line writes fall due in a frame exactly where the frame program has them (R121 to R126,
R130). -/
def Obligations.LineWritesDueInFrame : Prop :=
  ∀ (p : Byte) (k : Fin 47),
    (frameOp p k = .write .data true ↔
      ∃ i, i < 8 ∧ k.val = 2 + 5 * i ∧ p.getLsbD i = true) ∧
    (frameOp p k = .write .data false ↔
      ∃ i, i < 8 ∧ k.val = 2 + 5 * i ∧ p.getLsbD i = false) ∧
    (frameOp p k = .write .clock true ↔ ∃ i, i < 8 ∧ k.val = 4 + 5 * i) ∧
    (frameOp p k = .write .clock false ↔ ∃ i, i < 8 ∧ k.val = 6 + 5 * i) ∧
    (frameOp p k = .write .latch true ↔ k.val = 43) ∧
    (frameOp p k = .write .latch false ↔ k.val = 1 ∨ k.val = 45)

/-- R127: a wait changes no register; only the model's own sum of waits grows (log entry 13). -/
def Obligations.WaitChangesNoRegister : Prop :=
  ∀ (d : Duration) (s : State), 0 ≤ d → inFlight s = false →
    exec (.wait d) s =
      .next { s with waited := { s.waited with harness := s.waited.harness + d } }

/-- In a frame in flight, `WAIT` of `BIT_DELAY` is the frame's own wait where one is due, and `SPC`
still advances (R127); every other wait disturbs no frame; a negative one is refused (D26). The model's
own: the sum of waits (log entry 13). Which waits are the frame's own: log entry 14; refusing: log entry
18. -/
def Obligations.WaitInFlight : Prop :=
  ∀ (d : Duration) (s : State),
    (0 ≤ d → dueMicroOp s = some .wait → d = s.cfg.bitDelay →
      exec (.wait d) s = .next (callerStep s)) ∧
    (0 ≤ d → ¬ (dueMicroOp s = some .wait ∧ d = s.cfg.bitDelay) →
      exec (.wait d) s =
        .next { s with waited := { s.waited with harness := s.waited.harness + d } }) ∧
    (d < 0 → exec (.wait d) s = .refused .negativeDuration)

/-! ## Display operations -/

/-- R97: the level written to the data line for bit i of a frame; for 0xA5 the eight levels in order. -/
def Obligations.DataLevelOfBit : Prop :=
  (∀ (p : Byte) (k : Fin 47) (i : Nat), i < 8 → k.val = 2 + 5 * i →
    frameOp p k = .write .data (decide ((p.toNat >>> i) &&& 1 = 1))) ∧
  (List.range 8).map (fun i => frameOp 0xA5 (Fin.ofNat 47 (2 + 5 * i))) =
    [true, false, true, false, false, true, false, true].map (MicroOp.write .data)

/-- R132: a frame has 27 line writes and 20 waits, whatever the pattern; entered with the clock low (R131)
it has 8 rising edges of the clock and one of the latch; and its data transitions are those of the
pattern's bits, from the level at entry. -/
def Obligations.FrameCounts : Prop :=
  ∀ (c : Caller) (p : Byte) (s : State),
    let ops := (List.finRange 47).map (frameOp p)
    let after := fun k => (frameStep c)^[k] (beginFrame p s)
    (ops.filter (fun m => m != .wait)).length = 27 ∧ ops.count .wait = 20 ∧
    ops.count (.write .data true) + ops.count (.write .data false) = 8 ∧
    ops.count (.write .clock true) = 8 ∧ ops.count (.write .clock false) = 8 ∧
    ops.count (.write .latch true) = 1 ∧ ops.count (.write .latch false) = 2 ∧
    (s.clock = false →
      ((List.range 47).filter fun k => !(after k).clock && (after (k + 1)).clock).length = 8) ∧
    ((List.range 47).filter fun k => !(after k).latch && (after (k + 1)).latch).length = 1 ∧
    ((List.range 47).filter fun k => (after k).data != (after (k + 1)).data).length =
      (if s.data = p.getLsbD 0 then 0 else 1) +
        ((List.range 7).filter fun i => p.getLsbD i != p.getLsbD (i + 1)).length

/-- R128, R66: entered with the clock low, `SHIFTOUT p` leaves the register and its outputs at `p`, the
data line at bit 7, the other lines low, and lasts 20 waits of `BIT_DELAY`; nothing else changes. It
defines the connected register again after a cut frame (R225; log entry 22). The model's own: `SPC`
after a frame (log entry 12), the sum of waits (log entry 13). The call as one step: log entry 8. -/
def Obligations.ShiftoutResult : Prop :=
  ∀ (p : Byte) (s : State), inFlight s = false → s.clock = false →
    exec (.shiftout p) s = .next { s with
      data := p.getLsbD 7, clock := false, latch := false
      sr := p, q := p, pat := p, sact := false, spc := 46, garbled := false
      waited := { s.waited with harness := s.waited.harness + 20 * s.cfg.bitDelay } }

/-- R131: entered with the clock high, bit 0 is lost. Where a cut frame has left the connected register
arbitrary, such a frame leaves it so (R225 defines it again only after a frame entered with the clock
low; log entry 22). It rests on the rising edge and the stage numbering, the spec's D5 and D6 (log entry
19; U8 says any value for a real part). The model's own: `SPC` after a frame (log entry 12), the sum of
waits (log entry 13), the call as one step (log entry 8). -/
def Obligations.ShiftoutEnteredClockHigh : Prop :=
  ∀ (p : Byte) (s : State), inFlight s = false → s.clock = true →
    (s.garbled = false → exec (.shiftout p) s = .next { s with
      data := p.getLsbD 7, clock := false, latch := false
      sr := (p &&& 0xFE) ||| (s.sr >>> 7), q := (p &&& 0xFE) ||| (s.sr >>> 7)
      pat := p, sact := false, spc := 46
      waited := { s.waited with harness := s.waited.harness + 20 * s.cfg.bitDelay } }) ∧
    (s.garbled = true → exec (.shiftout p) s = .next { s with
      data := p.getLsbD 7, clock := false, latch := false
      sr := Config.glitchSr (s.free + 26), q := Config.glitchQ (s.free + 26), free := s.free + 27
      pat := p, sact := false, spc := 46
      waited := { s.waited with harness := s.waited.harness + 20 * s.cfg.bitDelay } })

/-- R151: `CLEAR` sends the whole frame 0xFF, whatever is shown. The model's own: `SPC` after a frame
(log entry 12), the sum of waits (log entry 13). The call as one step: log entry 8. -/
def Obligations.ClearResult : Prop :=
  ∀ s : State, exec .clear s = exec (.shiftout 0xFF) s ∧
    (inFlight s = false → s.clock = false →
      exec .clear s = .next { s with
        data := true, clock := false, latch := false
        sr := 0xFF, q := 0xFF, pat := 0xFF, sact := false, spc := 46, garbled := false
        waited := { s.waited with harness := s.waited.harness + 20 * s.cfg.bitDelay } })

/-- R152, R94: `SHOWDIGIT n` is `SHIFTOUT` of the glyph of a digit, and of 0xFF for every other integer;
and the result of that frame. The model's own: `SPC` after a frame (log entry 12), the sum of waits (log
entry 13). The call as one step: log entry 8. -/
def Obligations.ShowDigitResult : Prop :=
  ∀ (n : Int) (p : Byte) (s : State),
    (∀ k : Fin 10, n = k.val → p = Config.glyph k) → (n < 0 ∨ 9 < n → p = 0xFF) →
    exec (.showdigit n) s = exec (.shiftout p) s ∧
    (inFlight s = false → s.clock = false →
      exec (.showdigit n) s = .next { s with
        data := p.getLsbD 7, clock := false, latch := false
        sr := p, q := p, pat := p, sact := false, spc := 46, garbled := false
        waited := { s.waited with harness := s.waited.harness + 20 * s.cfg.bitDelay } })

/-- R153: `RESET`, from any state whatever of the lines and of the connected register, one that a cut
frame has left arbitrary included (R225; the free values the three opening writes take: log entry 22).
The model's own: `SPC` after a frame (log entry 12), the sum of waits (log entry 13). The call as one
step: log entry 8. -/
def Obligations.ResetResult : Prop :=
  ∀ s : State, inFlight s = false →
    exec .reset s = .next { s with
      data := false, clock := false, latch := false
      sr := 0xFF, q := 0xFF, pat := 0xFF, sact := false, spc := 46
      garbled := false, free := if s.garbled then s.free + 3 else s.free
      waited := { s.waited with harness := s.waited.harness + 20 * s.cfg.bitDelay } }

/-- R155: a second `RESET`, `CLEAR` or `SHOWDIGIT n` leaves the lines and the connected register as the
first left them; the second is performed in full. The model's own: the sum of waits (log entry 13). -/
def Obligations.DisplayCallsIdempotent : Prop :=
  ∀ (i : Instr) (s t : State), isDisplayCall i = true → inFlight s = false →
    (s.clock = false ∨ i = .reset) → exec i s = .next t →
    exec i t = .next { t with
      waited := { t.waited with harness := t.waited.harness + 20 * t.cfg.bitDelay } }

/-- R135, R92, R133: during a frame the outputs keep the old pattern until micro-step 43 has been
performed and show the new one from then on; `SR` holds the first bits of the new one above the last of
the old; and 18 of the 20 waits come before the change. The contents of `SR` on the way rest on the
rising edge and the stage numbering, the spec's D5 and D6 (R63; log entry 19). The model's own: the sum
of waits (log entry 13). -/
def Obligations.FrameCourse : Prop :=
  ∀ (c : Caller) (p : Byte) (s : State) (k : Nat), s.clock = false → k ≤ 47 →
    let t := (frameStep c)^[k] (beginFrame p s)
    t.q = (if k ≤ 43 then s.q else p) ∧
    t.sr = (p <<< (8 - clocksDone k)) ||| (s.sr >>> clocksDone k) ∧
    (k = 43 → t.waited = s.waited.add c (18 * s.cfg.bitDelay)) ∧
    (k = 47 → t.waited = s.waited.add c (20 * s.cfg.bitDelay))

/-! ## Display operations called by the controller -/

/-- R150, R180: a display operation called by the roll takes 47 of the roll agent's steps and then has
the result of R66, and `RPC` has advanced by one. The model's own: `SPC` after a frame (log entry 12),
the sum of waits (log entry 13). One micro-step a step: log entry 9. -/
def Obligations.RollCallSendsFrame : Prop :=
  ∀ s : State, s.cst = .rolling → isCallAction (rollAction s.rpc) = true → inFlight s = false →
    s.clock = false →
    repeatOp .roll 47 s = .next { s with
      data := (calledPattern s).getLsbD 7, clock := false, latch := false
      sr := calledPattern s, q := calledPattern s, pat := calledPattern s, sact := false, spc := 46
      garbled := false
      rpc := bump s.rpc
      waited := { s.waited with roll := s.waited.roll + 20 * s.cfg.bitDelay } }

/-- R174, R262, R156: from `SETUP` at position 0, with the lines and the connected register at any
values (log entry 22 for arbitrary ones), 53 steps of `RESET` and the two further actions end in `IDLE`,
armed, not busy, blank. The model's own: `SPC` after a frame (log entry 12), the sum of waits (log entry
13). One micro-step a step: log entry 9. -/
def Obligations.SetupRunsToIdle : Prop :=
  ∀ s : State, s.cst = .setup → s.lpc = 0 → inFlight s = false →
    repeatOp .setup 55 s = .next { s with
      data := false, clock := false, latch := false
      sr := 0xFF, q := 0xFF, pat := 0xFF, sact := false, spc := 46
      garbled := false, free := if s.garbled then s.free + 3 else s.free
      cst := .idle, busy := false, armed := true, lpc := 2
      waited := { s.waited with lifecycle := s.waited.lifecycle + 20 * s.cfg.bitDelay } }

/-- R179, R263: from `UNINIT` or `IDLE` with a termination pending, action 0, 53 steps of `RESET` and
action 2 end in `HALTED` with every line low and no digit shown, whatever a cut frame left (log entry
22). The model's own: `SPC` after a frame (log entry 12), the sum of waits (log entry 13). One
micro-step a step: log entry 9. -/
def Obligations.ShutdownRunsToHalted : Prop :=
  ∀ s : State, s.cst = .uninit ∨ s.cst = .idle → s.termPending = true → inFlight s = false →
    repeatOp .shutdown 55 s = .next { s with
      data := false, clock := false, latch := false
      sr := 0xFF, q := 0xFF, pat := 0xFF, sact := false, spc := 46
      garbled := false, free := if s.garbled then s.free + 3 else s.free
      cst := .halted, busy := false, armed := false, lpc := 2
      waited := { s.waited with lifecycle := s.waited.lifecycle + 20 * s.cfg.bitDelay } }

/-- R184, R185: the whole roll after the accepted press: ten draws, twenty frames, nineteen sleeps; it
ends in `IDLE`, not busy, showing the digit of the first draw, whatever the nine spin digits were. The
model's own: `SPC` after a frame (log entry 12), the sum of waits (log entry 13). One micro-step a step:
log entry 9. -/
def Obligations.RollRunsToFinalDigit : Prop :=
  ∀ s : State, s.cst = .rolling → s.rpc = 1 → inFlight s = false → s.clock = false →
    repeatOp .roll 970 s = .next { s with
      data := (Config.glyph (Config.draw s.free)).getLsbD 7, clock := false, latch := false
      sr := Config.glyph (Config.draw s.free), q := Config.glyph (Config.draw s.free)
      pat := Config.glyph (Config.draw s.free), sact := false, spc := 46, garbled := false
      finalDigit := Config.draw s.free, rtmp := Config.draw (s.free + 9), free := s.free + 10
      rpc := 50, cst := .idle, busy := false
      waited := { s.waited with roll := s.waited.roll + (7555 + 400 * s.cfg.bitDelay) } }

/-! ## The controller's operations -/

/-- R173, R44, R37, R8: construction of a block with a legal configuration; each field of it is the one
supplied, or its default. The registers that R20 calls unwritten keep what they hold (log entry 5). The
levels are free: log entry 4. -/
def Obligations.PowerOnConstructs : Prop :=
  ∀ (c : SuppliedConfig) (s : State), s.built = false → (Config.resolve c).legal = true →
    ∃ t, exec (.poweron c) s = .next t ∧
      t.cst = .uninit ∧ t.busy = true ∧ t.armed = false ∧ t.termPending = false ∧
      t.sact = false ∧ t.lpc = 0 ∧ t.built = true ∧ t.flight = .idle ∧
      t.garbled = false ∧ t.faulted = s.faulted ∧ t.free = s.free + 1 ∧
      t.cfg = {
        bitDelay := c.bitDelay.getD 10, initDelay := c.initDelay.getD 1000, tick := c.tick.getD 25
        debounce := c.debounce.getD 100, pinData := c.pinData.getD 17
        pinLatch := c.pinLatch.getD 27, pinClock := c.pinClock.getD 22
        pinButton := c.pinButton.getD 5 } ∧
      (⟨t.data, t.clock, t.latch, t.sr, t.q⟩ : PowerOnLevels) = Config.powerOn s.free ∧
      t.pat = s.pat ∧ t.spc = s.spc ∧ t.finalDigit = s.finalDigit ∧ t.rtmp = s.rtmp ∧
      t.rpc = s.rpc ∧ t.script = s.script ∧ t.waited = s.waited

/-- R71, D26, R251: exactly a configuration with a negative duration or with two equal line identifiers
is refused; and a block that exists is not constructed again (log entry 11). Refusing: log entry 18. -/
def Obligations.PowerOnRefusesIllegal : Prop :=
  ∀ (c : SuppliedConfig) (s : State),
    ((Config.resolve c).legal = true ↔
      (0 ≤ (Config.resolve c).bitDelay ∧ 0 ≤ (Config.resolve c).initDelay ∧
        0 ≤ (Config.resolve c).tick ∧ 0 ≤ (Config.resolve c).debounce) ∧
      [(Config.resolve c).pinData, (Config.resolve c).pinLatch, (Config.resolve c).pinClock,
        (Config.resolve c).pinButton].Nodup) ∧
    ((Config.resolve c).legal = false ↔ ∃ r, exec (.poweron c) s = .refused r) ∧
    ((Config.resolve c).legal = true → s.built = true → exec (.poweron c) s = .next s)

/-- R44: the values the spec gives after power-on, in the model's reset state. That reset is after a
`POWERON`: log entry 17. -/
def Obligations.ResetStateValues : Prop :=
  State.reset.cst = .uninit ∧ State.reset.busy = true ∧ State.reset.armed = false ∧
  State.reset.termPending = false ∧ State.reset.sact = false ∧ State.reset.lpc = 0

/-- R174: the three actions of `SETUP`, one step of the lifecycle agent each but for the first, whose
first step writes the data line of the opening `LINES_OFF`. The model's own: what is due (log entry 9);
a register left arbitrary by a cut frame stays so (log entry 22). -/
def Obligations.SetupActions : Prop :=
  ∀ s : State, s.cst = .setup →
    (s.lpc = 0 → s.flight = .idle →
      exec .setup s = .next { s with
        data := false, flight := .linesOff .clock false
        sr := if s.garbled then Config.glitchSr s.free else s.sr
        q := if s.garbled then Config.glitchQ s.free else s.q
        free := if s.garbled then s.free + 1 else s.free }) ∧
    (s.lpc = 1 → exec .setup s = .next { s with armed := true, lpc := 2 }) ∧
    (s.lpc = 2 → exec .setup s = .next { s with busy := false, cst := .idle })

/-- R179: the three actions of `SHUTDOWN`. The model's own: what is due (log entry 9), `LPC` at the end
(log entry 12); a register left arbitrary by a cut frame stays so (log entry 22). -/
def Obligations.ShutdownActions : Prop :=
  ∀ s : State,
    (s.termPending = true → s.cst = .uninit ∨ s.cst = .idle →
      exec .shutdown s =
        .next { s with cst := .shuttingDown, armed := false, busy := false, lpc := 1 }) ∧
    (s.cst = .shuttingDown → s.lpc = 1 → s.flight = .idle →
      exec .shutdown s = .next { s with
        data := false, flight := .linesOff .clock false
        sr := if s.garbled then Config.glitchSr s.free else s.sr
        q := if s.garbled then Config.glitchQ s.free else s.q
        free := if s.garbled then s.free + 1 else s.free }) ∧
    (s.cst = .shuttingDown → s.lpc = 2 → exec .shutdown s = .next { s with cst := .halted })

/-- R175: a tick changes no register, in `IDLE` and in `ROLLING` (log entry 13 for the sum of waits). -/
def Obligations.TickOnlyWaits : Prop :=
  ∀ s : State, s.cst = .idle ∨ s.cst = .rolling →
    exec .tick s =
      .next { s with waited := { s.waited with lifecycle := s.waited.lifecycle + s.cfg.tick } }

/-- R176: a release is a no-operation in every state. It is the spec's decision D23. -/
def Obligations.ReleaseDoesNothing : Prop := ∀ s : State, exec .release s = .next s

/-- R177, R229: the press guard, tested and set in one step. The single step is the spec's decision D13. -/
def Obligations.PressGuard : Prop :=
  ∀ s : State,
    (s.armed = true → s.busy = false →
      exec .press s = .next { s with busy := true, cst := .rolling, rpc := 1 }) ∧
    (s.armed = false ∨ s.busy = true → exec .press s = .next s)

/-- R178: a termination signal sets its flag and does nothing else; a second one changes nothing; and
the lifecycle agent acts on the flag in `UNINIT` and `IDLE` only, which is the spec's decision D12 (log
entry 16). When it acts is a free choice (log entry 3), of a block that exists (log entry 11). -/
def Obligations.TermSetsPending : Prop :=
  ∀ s : State,
    exec .term s = .next { s with termPending := true } ∧
    (s.termPending = true → exec .term s = .next s) ∧
    (s.cst ≠ .uninit → s.cst ≠ .idle →
      ∀ stop, lifecycleMove stop s = lifecycleMove false s) ∧
    (s.built = true → s.termPending = true → s.cst = .uninit ∨ s.cst = .idle →
      lifecycleMove true s =
        .next { s with cst := .shuttingDown, armed := false, busy := false, lpc := 1 })

/-- R230: acting on a termination happens only in `UNINIT` or `IDLE` with the flag set, never inside a
frame or a roll; it saves nothing, and it is one step. That it waits for `UNINIT` or `IDLE`, and is one
step, are the spec's decisions D12, D13 and D19 (log entry 16). -/
def Obligations.EntryOnTermination : Prop :=
  ∀ (i : Instr) (s t : State), ControlInv s → exec i s = .next t →
    s.cst ≠ .shuttingDown → t.cst = .shuttingDown →
    i = .shutdown ∧ (s.cst = .uninit ∨ s.cst = .idle) ∧ s.termPending = true ∧
      inFlight s = false ∧
      t = { s with cst := .shuttingDown, armed := false, busy := false, lpc := 1 }

/-- R182, R98: the sleeps of one roll, in order, and their sums. -/
def Obligations.RollSleeps : Prop :=
  rollSleeps = [5, 10, 20, 40, 80, 160, 320, 640, 1280,
    500, 500, 500, 500, 500, 500, 500, 500, 500, 500] ∧
  (rollSleeps.take 9).sum = 2555 ∧ rollSleeps.sum = 7555

/-- The actions of the roll program that call no display operation: the draws, the sleeps, the end
(R180). The model's own: the sum of waits (log entry 13). `RPC` at the end: log entry 12. -/
def Obligations.RollActions : Prop :=
  ∀ s : State, s.cst = .rolling →
    (s.rpc = 1 → exec .roll s =
      .next { s with finalDigit := Config.draw s.free, free := s.free + 1, rpc := 2 }) ∧
    (∀ k, k < 9 → s.rpc.val = 2 + 3 * k →
      exec .roll s = .next { s with
        rtmp := Config.draw s.free, free := s.free + 1, rpc := bump s.rpc } ∧
      (bump s.rpc).val = 3 + 3 * k) ∧
    (∀ k, k < 9 → s.rpc.val = 4 + 3 * k →
      exec .roll s = .next { s with
        rpc := bump s.rpc
        waited := { s.waited with roll := s.waited.roll + 5 * 2 ^ k } } ∧
      (bump s.rpc).val = 5 + 3 * k) ∧
    (∀ j, j < 5 → s.rpc.val = 30 + 4 * j ∨ s.rpc.val = 32 + 4 * j →
      exec .roll s = .next { s with
        rpc := bump s.rpc
        waited := { s.waited with roll := s.waited.roll + 500 } } ∧
      (bump s.rpc).val = s.rpc.val + 1) ∧
    (s.rpc = 50 → exec .roll s = .next { s with busy := false, cst := .idle })

/-- The display calls of the roll program and what each sends (R180): the spin digit, the final digit,
blank. -/
def Obligations.RollShows : Prop :=
  ∀ s : State,
    (∀ k, k < 9 → s.rpc.val = 3 + 3 * k →
      isCallAction (rollAction s.rpc) = true ∧ calledPattern s = Config.glyph s.rtmp) ∧
    (∀ j, j < 5 → s.rpc.val = 29 + 4 * j →
      isCallAction (rollAction s.rpc) = true ∧ calledPattern s = Config.glyph s.finalDigit) ∧
    (∀ j, j < 5 → s.rpc.val = 31 + 4 * j →
      isCallAction (rollAction s.rpc) = true ∧ calledPattern s = 0xFF) ∧
    (s.rpc.val = 49 →
      isCallAction (rollAction s.rpc) = true ∧ calledPattern s = Config.glyph s.finalDigit)

/-- An operation of the controller that is not enabled changes nothing (R171, R175, R179, V-C14, V-C15;
the model's choice, log entry 10). -/
def Obligations.NotEnabledChangesNothing : Prop :=
  ∀ s : State,
    (s.cst ≠ .setup → exec .setup s = .next s) ∧
    (s.cst ≠ .rolling → exec .roll s = .next s) ∧
    (s.cst ≠ .idle → s.cst ≠ .rolling → exec .tick s = .next s) ∧
    (s.cst ≠ .shuttingDown → s.termPending = false ∨ (s.cst ≠ .uninit ∧ s.cst ≠ .idle) →
      exec .shutdown s = .next s)

/-- R186: whatever presses arrive in a roll, and however many, the state is the one without them. -/
def Obligations.PressesAreNotQueued : Prop :=
  ∀ (s : State) (k : Nat), ControlInv s → s.cst = .rolling → repeatOp .press k s = .next s

/-- R134, R232: inside a display operation of the controller a press and a release change nothing, a
termination only sets its flag, and no shutdown begins. -/
def Obligations.EventsDoNotDisturbFrame : Prop :=
  ∀ s : State, ControlInv s → inFlight s = true →
    exec .press s = .next s ∧ exec .release s = .next s ∧
    exec .term s = .next { s with termPending := true } ∧
    (s.cst ≠ .shuttingDown → exec .shutdown s = .next s)

/-! ## The whole machine -/

/-- The flags and positions are in order at reset. -/
def Obligations.ControlInvAtReset : Prop := ControlInv State.reset

/-- The flags and positions stay in order (R42 items 3 to 5), whatever is scripted and whatever the
environment chooses. The model's own: what is in flight (log entry 9). -/
def Obligations.ControlInvKept : Prop :=
  ∀ s t : State, ControlInv s → step s = .next t → ControlInv t

/-- R42 item 3: armed and not busy, in `IDLE` and nowhere else; so a press is accepted there only. -/
def Obligations.PressAcceptedOnlyInIdle : Prop :=
  ∀ s : State, ControlInv s → ((s.armed = true ∧ s.busy = false) ↔ s.cst = .idle)

/-- R172: every change of `CST`, with what it needs. The first row, the construction of a block, needs
that no block exists. That there is no other, in particular none from `ROLLING` to `SHUTTING_DOWN`, is
the spec's decision D12 (log entry 16). -/
def Obligations.StateTransitions : Prop :=
  ∀ s t : State, ControlInv s → step s = .next t → t.cst ≠ s.cst →
    (s.built = false ∧ t.cst = .uninit) ∨
    (s.cst = .uninit ∧ t.cst = .setup) ∨
    (s.cst = .uninit ∧ t.cst = .shuttingDown ∧ s.termPending = true) ∨
    (s.cst = .setup ∧ t.cst = .idle ∧ s.lpc.val = 2) ∨
    (s.cst = .idle ∧ t.cst = .rolling ∧ t.rpc.val = 1 ∧ t.busy = true) ∨
    (s.cst = .rolling ∧ t.cst = .idle ∧ s.rpc.val = 50) ∨
    (s.cst = .idle ∧ t.cst = .shuttingDown ∧ s.termPending = true) ∨
    (s.cst = .shuttingDown ∧ t.cst = .halted ∧ s.lpc.val = 2)

/-- R42 item 7, R187: a block never leaves `HALTED`, and from `SHUTTING_DOWN` it goes nowhere else. -/
def Obligations.TeardownIsFinal : Prop :=
  ∀ s t : State, ControlInv s → s.built = true → step s = .next t →
    (s.cst = .halted → t.cst = .halted) ∧
    (s.cst = .shuttingDown → t.cst = .shuttingDown ∨ t.cst = .halted)

/-- R37, R32: the configuration of a block is never written again, and a pending termination is never
cleared. That a block is not constructed again: log entry 11. -/
def Obligations.ConfigurationAndTerminationStay : Prop :=
  ∀ s t : State, s.built = true → step s = .next t →
    t.built = true ∧ t.cfg = s.cfg ∧ (s.termPending = true → t.termPending = true)

/-- R65, R63: in a step that is at most one line write the buffer changes only at a rising edge of the
clock, and then by the shift, unless the step cuts a frame or one has been cut (log entry 22). The edge
is the spec's decision D5 (log entry 19). -/
def Obligations.BufferChangesOnlyAtClockEdge : Prop :=
  ∀ s t : State, singleStep s → step s = .next t → s.garbled = false → t.garbled = false →
    t.sr = if s.clock = false ∧ t.clock = true
      then ((BitVec.ofBool s.data).setWidth 8 <<< 7) ||| (s.sr >>> 1) else s.sr

/-- R65, R64, R70: in a step that is at most one line write the outputs change only at a rising edge of
the latch, and then all at once, unless the step cuts a frame or one has been cut (log entry 22). The
edge is the spec's decision D5 (log entry 19). -/
def Obligations.OutputsChangeOnlyAtLatchEdge : Prop :=
  ∀ s t : State, singleStep s → step s = .next t → s.garbled = false → t.garbled = false →
    t.q = if s.latch = false ∧ t.latch = true then s.sr else s.q

/-- R74, R171: only the lifecycle agent changes a line in `SETUP` and `SHUTTING_DOWN`, only the roll agent
in `ROLLING`, nobody in `UNINIT`, `IDLE` and `HALTED`; in `ROLLING` only the roll agent (its accepted press
included) writes `BUSY`; and a step that is at most one line write changes at most one line. -/
def Obligations.LinesDrivenByOneAgent : Prop :=
  ∀ s t : State,
    (∀ m, makeMove m s = .next t →
      (t.data ≠ s.data ∨ t.clock ≠ s.clock ∨ t.latch ≠ s.latch →
        ((∃ stop, m = .lifecycle stop) ∧ (s.cst = .setup ∨ s.cst = .shuttingDown)) ∨
          (m = .roll ∧ s.cst = .rolling)) ∧
      (s.cst = .rolling → t.busy ≠ s.busy → m = .roll ∨ m = .press)) ∧
    (step s = .next t → ownScript s → s.cst = .uninit ∨ s.cst = .idle ∨ s.cst = .halted →
      t.data = s.data ∧ t.clock = s.clock ∧ t.latch = s.latch) ∧
    (step s = .next t → singleStep s →
      (t.data = s.data ∧ t.clock = s.clock) ∨ (t.data = s.data ∧ t.latch = s.latch) ∨
        (t.clock = s.clock ∧ t.latch = s.latch))

/-- R220: no operation of the block stops; a run of the block itself goes on for ever. -/
def Obligations.BlockNeverStops : Prop :=
  ∀ (s : State) (k : Nat), ownScript s → runs k s

/-- R220, R221, R225, U1: no operation faults; the condition X5 is met exactly by a line write inside a
frame that is not the frame's own; exactly it marks the run faulted; the mark is never cleared; and a run
of the block itself never meets it (R134). What is a frame's own write: log entry 14. -/
def Obligations.FaultedOnlyByCutFrame : Prop :=
  (∀ (i : Instr) (s : State),
    (conditionOf i s = some .cutFrame ↔
      ∃ l v, (i, l, v) ∈ [(Instr.dataLo, Line.data, false), (.dataHi, .data, true),
          (.clkLo, .clock, false), (.clkHi, .clock, true), (.latLo, .latch, false),
          (.latHi, .latch, true)] ∧
        s.sact = true ∧ dueMicroOp s ≠ some (.write l v)) ∧
    (∀ t, exec i s = .next t →
      t.faulted = (s.faulted || decide (conditionOf i s = some .cutFrame))) ∧
    (∀ f, exec i s ≠ .fault f)) ∧
  (∀ s t : State, step s = .next t →
    (s.faulted = true → t.faulted = true) ∧ (ownScript s → t.faulted = s.faulted))

/-- R101, D26, U5: an operation is refused exactly where its operand is illegal. Refusing: log entry 18. -/
def Obligations.RefusedIffIllFormed : Prop :=
  ∀ (i : Instr) (s : State), (∃ r, exec i s = .refused r) ↔ i.wf = false

/-- R222: a digit below 0 or above 9 is the condition X1, what happens is what `CLEAR` does, and it is no
fault. -/
def Obligations.OutOfRangeDigitClears : Prop :=
  ∀ (n : Int) (s : State),
    (conditionOf (.showdigit n) s = some .outOfRangeDigit ↔ n < 0 ∨ 9 < n) ∧
    (n < 0 ∨ 9 < n → exec (.showdigit n) s = exec .clear s) ∧
    Condition.outOfRangeDigit.isFault = false

/-- Nothing is known of the lines at reset, and nothing is asked of them there (R265). The levels are
free: log entry 4. -/
def Obligations.LineInvAtReset : Prop := LineInv State.reset

/-- The lines and the connected register stay in order through every step of a run of the block itself
(R42 items 1 and 2, R66, R92, R153, R185, R262, R263). The contents of `SR` inside a frame rest on the
rising edge and the stage numbering, the spec's D5 and D6 (log entry 19). The model's own: what is in
flight (log entry 9). -/
def Obligations.LineInvKept : Prop :=
  ∀ s t : State, ownScript s → ControlInv s → LineInv s → step s = .next t →
    ownScript t ∧ LineInv t

/-- R263: in a block that has been shut down every line is low and no digit is shown, a termination was
pending, and it is neither busy nor armed. -/
def Obligations.HaltedIsSafe : Prop :=
  ∀ s : State, ControlInv s → LineInv s → s.cst = .halted →
    safeOff s ∧ s.busy = false ∧ s.armed = false ∧ s.termPending = true ∧ s.sact = false

/-- R185: the step that ends a roll leaves the final digit on the display. -/
def Obligations.RollEndsShowingFinalDigit : Prop :=
  ∀ s t : State, ownScript s → ControlInv s → LineInv s → step s = .next t →
    s.cst = .rolling → t.cst = .idle →
    t.q = Config.glyph t.finalDigit ∧ t.busy = false ∧ t.clock = false ∧ t.latch = false
end

