-- ==== Sys2Proof/Laws/Operands.lean ====
section
/-! SUPPORT. The laws of the operand functions: digits (R94), the shift (R63, R66), program positions,
legal durations (R37). -/

namespace Sys2Proof

theorem Duration.legal_iff (d : Duration) : Duration.legal d = true ↔ 0 ≤ d := by
  simp [Duration.legal, Rat.num_nonneg]

namespace Machine

theorem bump_of_lt {n : Nat} (k : Fin n) (h : k.val + 1 < n) : bump k = ⟨k.val + 1, h⟩ := by
  simp [bump, h]

theorem bump_val {n : Nat} (k : Fin n) (h : k.val + 1 < n) : (bump k).val = k.val + 1 := by
  simp [bump, h]

theorem bump_last {n : Nat} (k : Fin n) (h : ¬ k.val + 1 < n) : bump k = k := by
  simp [bump, h]

@[simp] theorem rises_iff (old new : Bool) : rises old new = true ↔ old = false ∧ new = true := by
  cases old <;> cases new <;> decide

@[simp] theorem rises_to_low (old : Bool) : rises old false = false := by cases old <;> rfl

/-- A digit shows its glyph (R94, R96). -/
@[simp] theorem patternOf_digit (d : Fin 10) : patternOf d.val = Config.glyph d := by
  have h : (0 : Int) ≤ d.val ∧ (d.val : Int) ≤ 9 := by omega
  simp [patternOf, h, glyphRead]

/-- Every integer that is no digit shows `BLANK` (R94). -/
theorem patternOf_of_out_of_range (n : Int) (h : n < 0 ∨ 9 < n) : patternOf n = Config.blank := by
  have : ¬ (0 ≤ n ∧ n ≤ 9) := by omega
  simp [patternOf, this]

/-- One shift, bit by bit: stage 7 takes the data line, every other stage its left neighbour (R63). -/
theorem shiftIn_bit (d : Bool) (r : Byte) (i : Nat) (hi : i < 8) :
    (shiftIn d r).getLsbD i = if i = 7 then d else r.getLsbD (i + 1) := by
  have : i = 0 ∨ i = 1 ∨ i = 2 ∨ i = 3 ∨ i = 4 ∨ i = 5 ∨ i = 6 ∨ i = 7 := by omega
  rcases this with rfl | rfl | rfl | rfl | rfl | rfl | rfl | rfl <;> cases d <;> simp [shiftIn]

end Machine

end Sys2Proof
end

