-- ==== Sys2Proof/Laws/State.lean ====
section
/-! SUPPORT. One lemma per field per update of the state, so that no proof unfolds a record update. -/

namespace Sys2Proof.Machine

section
variable (l : Line) (v : Bool) (c : Caller) (d : Duration) (p : Byte) (m : MicroOp) (s : State)

@[simp] theorem lineWrite_data_data : (lineWrite .data v s).data = v := rfl
@[simp] theorem lineWrite_data_clock : (lineWrite .data v s).clock = s.clock := rfl
@[simp] theorem lineWrite_data_latch : (lineWrite .data v s).latch = s.latch := rfl
@[simp] theorem lineWrite_data_sr : (lineWrite .data v s).sr = if s.garbled then Config.glitchSr s.free else s.sr := rfl
@[simp] theorem lineWrite_data_q : (lineWrite .data v s).q = if s.garbled then Config.glitchQ s.free else s.q := rfl
@[simp] theorem lineWrite_clock_data : (lineWrite .clock v s).data = s.data := rfl
@[simp] theorem lineWrite_clock_clock : (lineWrite .clock v s).clock = v := rfl
@[simp] theorem lineWrite_clock_latch : (lineWrite .clock v s).latch = s.latch := rfl
@[simp] theorem lineWrite_clock_sr : (lineWrite .clock v s).sr =
    if s.garbled then Config.glitchSr s.free else if rises s.clock v then shiftIn s.data s.sr else s.sr := rfl
@[simp] theorem lineWrite_clock_q : (lineWrite .clock v s).q = if s.garbled then Config.glitchQ s.free else s.q := rfl
@[simp] theorem lineWrite_latch_data : (lineWrite .latch v s).data = s.data := rfl
@[simp] theorem lineWrite_latch_clock : (lineWrite .latch v s).clock = s.clock := rfl
@[simp] theorem lineWrite_latch_latch : (lineWrite .latch v s).latch = v := rfl
@[simp] theorem lineWrite_latch_sr : (lineWrite .latch v s).sr = if s.garbled then Config.glitchSr s.free else s.sr := rfl
@[simp] theorem lineWrite_latch_q : (lineWrite .latch v s).q =
    if s.garbled then Config.glitchQ s.free else if rises s.latch v then s.sr else s.q := rfl
@[simp] theorem lineWrite_pat : (lineWrite l v s).pat = s.pat := by cases l <;> rfl
@[simp] theorem lineWrite_sact : (lineWrite l v s).sact = s.sact := by cases l <;> rfl
@[simp] theorem lineWrite_spc : (lineWrite l v s).spc = s.spc := by cases l <;> rfl
@[simp] theorem lineWrite_cst : (lineWrite l v s).cst = s.cst := by cases l <;> rfl
@[simp] theorem lineWrite_busy : (lineWrite l v s).busy = s.busy := by cases l <;> rfl
@[simp] theorem lineWrite_armed : (lineWrite l v s).armed = s.armed := by cases l <;> rfl
@[simp] theorem lineWrite_termPending : (lineWrite l v s).termPending = s.termPending := by cases l <;> rfl
@[simp] theorem lineWrite_finalDigit : (lineWrite l v s).finalDigit = s.finalDigit := by cases l <;> rfl
@[simp] theorem lineWrite_rtmp : (lineWrite l v s).rtmp = s.rtmp := by cases l <;> rfl
@[simp] theorem lineWrite_rpc : (lineWrite l v s).rpc = s.rpc := by cases l <;> rfl
@[simp] theorem lineWrite_lpc : (lineWrite l v s).lpc = s.lpc := by cases l <;> rfl
@[simp] theorem lineWrite_cfg : (lineWrite l v s).cfg = s.cfg := by cases l <;> rfl
@[simp] theorem lineWrite_flight : (lineWrite l v s).flight = s.flight := by cases l <;> rfl
@[simp] theorem lineWrite_built : (lineWrite l v s).built = s.built := by cases l <;> rfl
@[simp] theorem lineWrite_faulted : (lineWrite l v s).faulted = s.faulted := by cases l <;> rfl
@[simp] theorem lineWrite_garbled : (lineWrite l v s).garbled = s.garbled := by cases l <;> rfl
@[simp] theorem lineWrite_script : (lineWrite l v s).script = s.script := by cases l <;> rfl
@[simp] theorem lineWrite_free : (lineWrite l v s).free = if s.garbled then s.free + 1 else s.free := by cases l <;> rfl
@[simp] theorem lineWrite_waited : (lineWrite l v s).waited = s.waited := by cases l <;> rfl
@[simp] theorem cutFrame_pat : (cutFrame l v s).pat = s.pat := by simp [cutFrame]
@[simp] theorem cutFrame_sact : (cutFrame l v s).sact = s.sact := by simp [cutFrame]
@[simp] theorem cutFrame_spc : (cutFrame l v s).spc = s.spc := by simp [cutFrame]
@[simp] theorem cutFrame_cst : (cutFrame l v s).cst = s.cst := by simp [cutFrame]
@[simp] theorem cutFrame_busy : (cutFrame l v s).busy = s.busy := by simp [cutFrame]
@[simp] theorem cutFrame_armed : (cutFrame l v s).armed = s.armed := by simp [cutFrame]
@[simp] theorem cutFrame_termPending : (cutFrame l v s).termPending = s.termPending := by simp [cutFrame]
@[simp] theorem cutFrame_finalDigit : (cutFrame l v s).finalDigit = s.finalDigit := by simp [cutFrame]
@[simp] theorem cutFrame_rtmp : (cutFrame l v s).rtmp = s.rtmp := by simp [cutFrame]
@[simp] theorem cutFrame_rpc : (cutFrame l v s).rpc = s.rpc := by simp [cutFrame]
@[simp] theorem cutFrame_lpc : (cutFrame l v s).lpc = s.lpc := by simp [cutFrame]
@[simp] theorem cutFrame_cfg : (cutFrame l v s).cfg = s.cfg := by simp [cutFrame]
@[simp] theorem cutFrame_flight : (cutFrame l v s).flight = s.flight := by simp [cutFrame]
@[simp] theorem cutFrame_built : (cutFrame l v s).built = s.built := by simp [cutFrame]
@[simp] theorem cutFrame_script : (cutFrame l v s).script = s.script := by simp [cutFrame]
@[simp] theorem cutFrame_waited : (cutFrame l v s).waited = s.waited := by simp [cutFrame]
@[simp] theorem cutFrame_sr : (cutFrame l v s).sr = Config.glitchSr s.free := by cases l <;> rfl
@[simp] theorem cutFrame_q : (cutFrame l v s).q = Config.glitchQ s.free := by cases l <;> rfl
@[simp] theorem cutFrame_free : (cutFrame l v s).free = s.free + 1 := by simp [cutFrame]
@[simp] theorem cutFrame_faulted : (cutFrame l v s).faulted = true := by simp [cutFrame]
@[simp] theorem cutFrame_garbled : (cutFrame l v s).garbled = true := by simp [cutFrame]
@[simp] theorem await_data : (await c d s).data = s.data := rfl
@[simp] theorem await_clock : (await c d s).clock = s.clock := rfl
@[simp] theorem await_latch : (await c d s).latch = s.latch := rfl
@[simp] theorem await_pat : (await c d s).pat = s.pat := rfl
@[simp] theorem await_sact : (await c d s).sact = s.sact := rfl
@[simp] theorem await_spc : (await c d s).spc = s.spc := rfl
@[simp] theorem await_sr : (await c d s).sr = s.sr := rfl
@[simp] theorem await_q : (await c d s).q = s.q := rfl
@[simp] theorem await_cst : (await c d s).cst = s.cst := rfl
@[simp] theorem await_busy : (await c d s).busy = s.busy := rfl
@[simp] theorem await_armed : (await c d s).armed = s.armed := rfl
@[simp] theorem await_termPending : (await c d s).termPending = s.termPending := rfl
@[simp] theorem await_finalDigit : (await c d s).finalDigit = s.finalDigit := rfl
@[simp] theorem await_rtmp : (await c d s).rtmp = s.rtmp := rfl
@[simp] theorem await_rpc : (await c d s).rpc = s.rpc := rfl
@[simp] theorem await_lpc : (await c d s).lpc = s.lpc := rfl
@[simp] theorem await_cfg : (await c d s).cfg = s.cfg := rfl
@[simp] theorem await_flight : (await c d s).flight = s.flight := rfl
@[simp] theorem await_built : (await c d s).built = s.built := rfl
@[simp] theorem await_faulted : (await c d s).faulted = s.faulted := rfl
@[simp] theorem await_garbled : (await c d s).garbled = s.garbled := rfl
@[simp] theorem await_script : (await c d s).script = s.script := rfl
@[simp] theorem await_free : (await c d s).free = s.free := rfl
@[simp] theorem await_waited : (await c d s).waited = s.waited.add c d := rfl
@[simp] theorem drawFinalDigit_data : (drawFinalDigit s).data = s.data := rfl
@[simp] theorem drawFinalDigit_clock : (drawFinalDigit s).clock = s.clock := rfl
@[simp] theorem drawFinalDigit_latch : (drawFinalDigit s).latch = s.latch := rfl
@[simp] theorem drawFinalDigit_pat : (drawFinalDigit s).pat = s.pat := rfl
@[simp] theorem drawFinalDigit_sact : (drawFinalDigit s).sact = s.sact := rfl
@[simp] theorem drawFinalDigit_spc : (drawFinalDigit s).spc = s.spc := rfl
@[simp] theorem drawFinalDigit_sr : (drawFinalDigit s).sr = s.sr := rfl
@[simp] theorem drawFinalDigit_q : (drawFinalDigit s).q = s.q := rfl
@[simp] theorem drawFinalDigit_cst : (drawFinalDigit s).cst = s.cst := rfl
@[simp] theorem drawFinalDigit_busy : (drawFinalDigit s).busy = s.busy := rfl
@[simp] theorem drawFinalDigit_armed : (drawFinalDigit s).armed = s.armed := rfl
@[simp] theorem drawFinalDigit_termPending : (drawFinalDigit s).termPending = s.termPending := rfl
@[simp] theorem drawFinalDigit_finalDigit : (drawFinalDigit s).finalDigit = Config.draw s.free := rfl
@[simp] theorem drawFinalDigit_rtmp : (drawFinalDigit s).rtmp = s.rtmp := rfl
@[simp] theorem drawFinalDigit_rpc : (drawFinalDigit s).rpc = s.rpc := rfl
@[simp] theorem drawFinalDigit_lpc : (drawFinalDigit s).lpc = s.lpc := rfl
@[simp] theorem drawFinalDigit_cfg : (drawFinalDigit s).cfg = s.cfg := rfl
@[simp] theorem drawFinalDigit_flight : (drawFinalDigit s).flight = s.flight := rfl
@[simp] theorem drawFinalDigit_built : (drawFinalDigit s).built = s.built := rfl
@[simp] theorem drawFinalDigit_faulted : (drawFinalDigit s).faulted = s.faulted := rfl
@[simp] theorem drawFinalDigit_garbled : (drawFinalDigit s).garbled = s.garbled := rfl
@[simp] theorem drawFinalDigit_script : (drawFinalDigit s).script = s.script := rfl
@[simp] theorem drawFinalDigit_free : (drawFinalDigit s).free = s.free + 1 := rfl
@[simp] theorem drawFinalDigit_waited : (drawFinalDigit s).waited = s.waited := rfl
@[simp] theorem drawSpinDigit_data : (drawSpinDigit s).data = s.data := rfl
@[simp] theorem drawSpinDigit_clock : (drawSpinDigit s).clock = s.clock := rfl
@[simp] theorem drawSpinDigit_latch : (drawSpinDigit s).latch = s.latch := rfl
@[simp] theorem drawSpinDigit_pat : (drawSpinDigit s).pat = s.pat := rfl
@[simp] theorem drawSpinDigit_sact : (drawSpinDigit s).sact = s.sact := rfl
@[simp] theorem drawSpinDigit_spc : (drawSpinDigit s).spc = s.spc := rfl
@[simp] theorem drawSpinDigit_sr : (drawSpinDigit s).sr = s.sr := rfl
@[simp] theorem drawSpinDigit_q : (drawSpinDigit s).q = s.q := rfl
@[simp] theorem drawSpinDigit_cst : (drawSpinDigit s).cst = s.cst := rfl
@[simp] theorem drawSpinDigit_busy : (drawSpinDigit s).busy = s.busy := rfl
@[simp] theorem drawSpinDigit_armed : (drawSpinDigit s).armed = s.armed := rfl
@[simp] theorem drawSpinDigit_termPending : (drawSpinDigit s).termPending = s.termPending := rfl
@[simp] theorem drawSpinDigit_finalDigit : (drawSpinDigit s).finalDigit = s.finalDigit := rfl
@[simp] theorem drawSpinDigit_rtmp : (drawSpinDigit s).rtmp = Config.draw s.free := rfl
@[simp] theorem drawSpinDigit_rpc : (drawSpinDigit s).rpc = s.rpc := rfl
@[simp] theorem drawSpinDigit_lpc : (drawSpinDigit s).lpc = s.lpc := rfl
@[simp] theorem drawSpinDigit_cfg : (drawSpinDigit s).cfg = s.cfg := rfl
@[simp] theorem drawSpinDigit_flight : (drawSpinDigit s).flight = s.flight := rfl
@[simp] theorem drawSpinDigit_built : (drawSpinDigit s).built = s.built := rfl
@[simp] theorem drawSpinDigit_faulted : (drawSpinDigit s).faulted = s.faulted := rfl
@[simp] theorem drawSpinDigit_garbled : (drawSpinDigit s).garbled = s.garbled := rfl
@[simp] theorem drawSpinDigit_script : (drawSpinDigit s).script = s.script := rfl
@[simp] theorem drawSpinDigit_free : (drawSpinDigit s).free = s.free + 1 := rfl
@[simp] theorem drawSpinDigit_waited : (drawSpinDigit s).waited = s.waited := rfl
@[simp] theorem advanceRpc_data : (advanceRpc s).data = s.data := rfl
@[simp] theorem advanceRpc_clock : (advanceRpc s).clock = s.clock := rfl
@[simp] theorem advanceRpc_latch : (advanceRpc s).latch = s.latch := rfl
@[simp] theorem advanceRpc_pat : (advanceRpc s).pat = s.pat := rfl
@[simp] theorem advanceRpc_sact : (advanceRpc s).sact = s.sact := rfl
@[simp] theorem advanceRpc_spc : (advanceRpc s).spc = s.spc := rfl
@[simp] theorem advanceRpc_sr : (advanceRpc s).sr = s.sr := rfl
@[simp] theorem advanceRpc_q : (advanceRpc s).q = s.q := rfl
@[simp] theorem advanceRpc_cst : (advanceRpc s).cst = s.cst := rfl
@[simp] theorem advanceRpc_busy : (advanceRpc s).busy = s.busy := rfl
@[simp] theorem advanceRpc_armed : (advanceRpc s).armed = s.armed := rfl
@[simp] theorem advanceRpc_termPending : (advanceRpc s).termPending = s.termPending := rfl
@[simp] theorem advanceRpc_finalDigit : (advanceRpc s).finalDigit = s.finalDigit := rfl
@[simp] theorem advanceRpc_rtmp : (advanceRpc s).rtmp = s.rtmp := rfl
@[simp] theorem advanceRpc_rpc : (advanceRpc s).rpc = bump s.rpc := rfl
@[simp] theorem advanceRpc_lpc : (advanceRpc s).lpc = s.lpc := rfl
@[simp] theorem advanceRpc_cfg : (advanceRpc s).cfg = s.cfg := rfl
@[simp] theorem advanceRpc_flight : (advanceRpc s).flight = s.flight := rfl
@[simp] theorem advanceRpc_built : (advanceRpc s).built = s.built := rfl
@[simp] theorem advanceRpc_faulted : (advanceRpc s).faulted = s.faulted := rfl
@[simp] theorem advanceRpc_garbled : (advanceRpc s).garbled = s.garbled := rfl
@[simp] theorem advanceRpc_script : (advanceRpc s).script = s.script := rfl
@[simp] theorem advanceRpc_free : (advanceRpc s).free = s.free := rfl
@[simp] theorem advanceRpc_waited : (advanceRpc s).waited = s.waited := rfl
@[simp] theorem advanceLpc_data : (advanceLpc s).data = s.data := rfl
@[simp] theorem advanceLpc_clock : (advanceLpc s).clock = s.clock := rfl
@[simp] theorem advanceLpc_latch : (advanceLpc s).latch = s.latch := rfl
@[simp] theorem advanceLpc_pat : (advanceLpc s).pat = s.pat := rfl
@[simp] theorem advanceLpc_sact : (advanceLpc s).sact = s.sact := rfl
@[simp] theorem advanceLpc_spc : (advanceLpc s).spc = s.spc := rfl
@[simp] theorem advanceLpc_sr : (advanceLpc s).sr = s.sr := rfl
@[simp] theorem advanceLpc_q : (advanceLpc s).q = s.q := rfl
@[simp] theorem advanceLpc_cst : (advanceLpc s).cst = s.cst := rfl
@[simp] theorem advanceLpc_busy : (advanceLpc s).busy = s.busy := rfl
@[simp] theorem advanceLpc_armed : (advanceLpc s).armed = s.armed := rfl
@[simp] theorem advanceLpc_termPending : (advanceLpc s).termPending = s.termPending := rfl
@[simp] theorem advanceLpc_finalDigit : (advanceLpc s).finalDigit = s.finalDigit := rfl
@[simp] theorem advanceLpc_rtmp : (advanceLpc s).rtmp = s.rtmp := rfl
@[simp] theorem advanceLpc_rpc : (advanceLpc s).rpc = s.rpc := rfl
@[simp] theorem advanceLpc_lpc : (advanceLpc s).lpc = bump s.lpc := rfl
@[simp] theorem advanceLpc_cfg : (advanceLpc s).cfg = s.cfg := rfl
@[simp] theorem advanceLpc_flight : (advanceLpc s).flight = s.flight := rfl
@[simp] theorem advanceLpc_built : (advanceLpc s).built = s.built := rfl
@[simp] theorem advanceLpc_faulted : (advanceLpc s).faulted = s.faulted := rfl
@[simp] theorem advanceLpc_garbled : (advanceLpc s).garbled = s.garbled := rfl
@[simp] theorem advanceLpc_script : (advanceLpc s).script = s.script := rfl
@[simp] theorem advanceLpc_free : (advanceLpc s).free = s.free := rfl
@[simp] theorem advanceLpc_waited : (advanceLpc s).waited = s.waited := rfl
@[simp] theorem enterRoll_data : (enterRoll s).data = s.data := rfl
@[simp] theorem enterRoll_clock : (enterRoll s).clock = s.clock := rfl
@[simp] theorem enterRoll_latch : (enterRoll s).latch = s.latch := rfl
@[simp] theorem enterRoll_pat : (enterRoll s).pat = s.pat := rfl
@[simp] theorem enterRoll_sact : (enterRoll s).sact = s.sact := rfl
@[simp] theorem enterRoll_spc : (enterRoll s).spc = s.spc := rfl
@[simp] theorem enterRoll_sr : (enterRoll s).sr = s.sr := rfl
@[simp] theorem enterRoll_q : (enterRoll s).q = s.q := rfl
@[simp] theorem enterRoll_cst : (enterRoll s).cst = .rolling := rfl
@[simp] theorem enterRoll_busy : (enterRoll s).busy = true := rfl
@[simp] theorem enterRoll_armed : (enterRoll s).armed = s.armed := rfl
@[simp] theorem enterRoll_termPending : (enterRoll s).termPending = s.termPending := rfl
@[simp] theorem enterRoll_finalDigit : (enterRoll s).finalDigit = s.finalDigit := rfl
@[simp] theorem enterRoll_rtmp : (enterRoll s).rtmp = s.rtmp := rfl
@[simp] theorem enterRoll_rpc : (enterRoll s).rpc = 1 := rfl
@[simp] theorem enterRoll_lpc : (enterRoll s).lpc = s.lpc := rfl
@[simp] theorem enterRoll_cfg : (enterRoll s).cfg = s.cfg := rfl
@[simp] theorem enterRoll_flight : (enterRoll s).flight = s.flight := rfl
@[simp] theorem enterRoll_built : (enterRoll s).built = s.built := rfl
@[simp] theorem enterRoll_faulted : (enterRoll s).faulted = s.faulted := rfl
@[simp] theorem enterRoll_garbled : (enterRoll s).garbled = s.garbled := rfl
@[simp] theorem enterRoll_script : (enterRoll s).script = s.script := rfl
@[simp] theorem enterRoll_free : (enterRoll s).free = s.free := rfl
@[simp] theorem enterRoll_waited : (enterRoll s).waited = s.waited := rfl
@[simp] theorem enterShutdown_data : (enterShutdown s).data = s.data := rfl
@[simp] theorem enterShutdown_clock : (enterShutdown s).clock = s.clock := rfl
@[simp] theorem enterShutdown_latch : (enterShutdown s).latch = s.latch := rfl
@[simp] theorem enterShutdown_pat : (enterShutdown s).pat = s.pat := rfl
@[simp] theorem enterShutdown_sact : (enterShutdown s).sact = s.sact := rfl
@[simp] theorem enterShutdown_spc : (enterShutdown s).spc = s.spc := rfl
@[simp] theorem enterShutdown_sr : (enterShutdown s).sr = s.sr := rfl
@[simp] theorem enterShutdown_q : (enterShutdown s).q = s.q := rfl
@[simp] theorem enterShutdown_cst : (enterShutdown s).cst = .shuttingDown := rfl
@[simp] theorem enterShutdown_busy : (enterShutdown s).busy = false := rfl
@[simp] theorem enterShutdown_armed : (enterShutdown s).armed = false := rfl
@[simp] theorem enterShutdown_termPending : (enterShutdown s).termPending = s.termPending := rfl
@[simp] theorem enterShutdown_finalDigit : (enterShutdown s).finalDigit = s.finalDigit := rfl
@[simp] theorem enterShutdown_rtmp : (enterShutdown s).rtmp = s.rtmp := rfl
@[simp] theorem enterShutdown_rpc : (enterShutdown s).rpc = s.rpc := rfl
@[simp] theorem enterShutdown_lpc : (enterShutdown s).lpc = 1 := rfl
@[simp] theorem enterShutdown_cfg : (enterShutdown s).cfg = s.cfg := rfl
@[simp] theorem enterShutdown_flight : (enterShutdown s).flight = s.flight := rfl
@[simp] theorem enterShutdown_built : (enterShutdown s).built = s.built := rfl
@[simp] theorem enterShutdown_faulted : (enterShutdown s).faulted = s.faulted := rfl
@[simp] theorem enterShutdown_garbled : (enterShutdown s).garbled = s.garbled := rfl
@[simp] theorem enterShutdown_script : (enterShutdown s).script = s.script := rfl
@[simp] theorem enterShutdown_free : (enterShutdown s).free = s.free := rfl
@[simp] theorem enterShutdown_waited : (enterShutdown s).waited = s.waited := rfl
@[simp] theorem returnToIdle_data : (returnToIdle s).data = s.data := rfl
@[simp] theorem returnToIdle_clock : (returnToIdle s).clock = s.clock := rfl
@[simp] theorem returnToIdle_latch : (returnToIdle s).latch = s.latch := rfl
@[simp] theorem returnToIdle_pat : (returnToIdle s).pat = s.pat := rfl
@[simp] theorem returnToIdle_sact : (returnToIdle s).sact = s.sact := rfl
@[simp] theorem returnToIdle_spc : (returnToIdle s).spc = s.spc := rfl
@[simp] theorem returnToIdle_sr : (returnToIdle s).sr = s.sr := rfl
@[simp] theorem returnToIdle_q : (returnToIdle s).q = s.q := rfl
@[simp] theorem returnToIdle_cst : (returnToIdle s).cst = .idle := rfl
@[simp] theorem returnToIdle_busy : (returnToIdle s).busy = false := rfl
@[simp] theorem returnToIdle_armed : (returnToIdle s).armed = s.armed := rfl
@[simp] theorem returnToIdle_termPending : (returnToIdle s).termPending = s.termPending := rfl
@[simp] theorem returnToIdle_finalDigit : (returnToIdle s).finalDigit = s.finalDigit := rfl
@[simp] theorem returnToIdle_rtmp : (returnToIdle s).rtmp = s.rtmp := rfl
@[simp] theorem returnToIdle_rpc : (returnToIdle s).rpc = s.rpc := rfl
@[simp] theorem returnToIdle_lpc : (returnToIdle s).lpc = s.lpc := rfl
@[simp] theorem returnToIdle_cfg : (returnToIdle s).cfg = s.cfg := rfl
@[simp] theorem returnToIdle_flight : (returnToIdle s).flight = s.flight := rfl
@[simp] theorem returnToIdle_built : (returnToIdle s).built = s.built := rfl
@[simp] theorem returnToIdle_faulted : (returnToIdle s).faulted = s.faulted := rfl
@[simp] theorem returnToIdle_garbled : (returnToIdle s).garbled = s.garbled := rfl
@[simp] theorem returnToIdle_script : (returnToIdle s).script = s.script := rfl
@[simp] theorem returnToIdle_free : (returnToIdle s).free = s.free := rfl
@[simp] theorem returnToIdle_waited : (returnToIdle s).waited = s.waited := rfl
@[simp] theorem endInitDelay_data : (endInitDelay s).data = s.data := rfl
@[simp] theorem endInitDelay_clock : (endInitDelay s).clock = s.clock := rfl
@[simp] theorem endInitDelay_latch : (endInitDelay s).latch = s.latch := rfl
@[simp] theorem endInitDelay_pat : (endInitDelay s).pat = s.pat := rfl
@[simp] theorem endInitDelay_sact : (endInitDelay s).sact = s.sact := rfl
@[simp] theorem endInitDelay_spc : (endInitDelay s).spc = s.spc := rfl
@[simp] theorem endInitDelay_sr : (endInitDelay s).sr = s.sr := rfl
@[simp] theorem endInitDelay_q : (endInitDelay s).q = s.q := rfl
@[simp] theorem endInitDelay_cst : (endInitDelay s).cst = .setup := rfl
@[simp] theorem endInitDelay_busy : (endInitDelay s).busy = s.busy := rfl
@[simp] theorem endInitDelay_armed : (endInitDelay s).armed = s.armed := rfl
@[simp] theorem endInitDelay_termPending : (endInitDelay s).termPending = s.termPending := rfl
@[simp] theorem endInitDelay_finalDigit : (endInitDelay s).finalDigit = s.finalDigit := rfl
@[simp] theorem endInitDelay_rtmp : (endInitDelay s).rtmp = s.rtmp := rfl
@[simp] theorem endInitDelay_rpc : (endInitDelay s).rpc = s.rpc := rfl
@[simp] theorem endInitDelay_lpc : (endInitDelay s).lpc = 0 := rfl
@[simp] theorem endInitDelay_cfg : (endInitDelay s).cfg = s.cfg := rfl
@[simp] theorem endInitDelay_flight : (endInitDelay s).flight = s.flight := rfl
@[simp] theorem endInitDelay_built : (endInitDelay s).built = s.built := rfl
@[simp] theorem endInitDelay_faulted : (endInitDelay s).faulted = s.faulted := rfl
@[simp] theorem endInitDelay_garbled : (endInitDelay s).garbled = s.garbled := rfl
@[simp] theorem endInitDelay_script : (endInitDelay s).script = s.script := rfl
@[simp] theorem endInitDelay_free : (endInitDelay s).free = s.free := rfl
@[simp] theorem endInitDelay_waited : (endInitDelay s).waited = s.waited.add .lifecycle s.cfg.initDelay := rfl
@[simp] theorem construct_data (k : Configuration) : (construct k s).data = (Config.powerOn s.free).data := rfl
@[simp] theorem construct_clock (k : Configuration) : (construct k s).clock = (Config.powerOn s.free).clock := rfl
@[simp] theorem construct_latch (k : Configuration) : (construct k s).latch = (Config.powerOn s.free).latch := rfl
@[simp] theorem construct_pat (k : Configuration) : (construct k s).pat = s.pat := rfl
@[simp] theorem construct_sact (k : Configuration) : (construct k s).sact = false := rfl
@[simp] theorem construct_spc (k : Configuration) : (construct k s).spc = s.spc := rfl
@[simp] theorem construct_sr (k : Configuration) : (construct k s).sr = (Config.powerOn s.free).sr := rfl
@[simp] theorem construct_q (k : Configuration) : (construct k s).q = (Config.powerOn s.free).q := rfl
@[simp] theorem construct_cst (k : Configuration) : (construct k s).cst = .uninit := rfl
@[simp] theorem construct_busy (k : Configuration) : (construct k s).busy = true := rfl
@[simp] theorem construct_armed (k : Configuration) : (construct k s).armed = false := rfl
@[simp] theorem construct_termPending (k : Configuration) : (construct k s).termPending = false := rfl
@[simp] theorem construct_finalDigit (k : Configuration) : (construct k s).finalDigit = s.finalDigit := rfl
@[simp] theorem construct_rtmp (k : Configuration) : (construct k s).rtmp = s.rtmp := rfl
@[simp] theorem construct_rpc (k : Configuration) : (construct k s).rpc = s.rpc := rfl
@[simp] theorem construct_lpc (k : Configuration) : (construct k s).lpc = 0 := rfl
@[simp] theorem construct_cfg (k : Configuration) : (construct k s).cfg = k := rfl
@[simp] theorem construct_flight (k : Configuration) : (construct k s).flight = .idle := rfl
@[simp] theorem construct_built (k : Configuration) : (construct k s).built = true := rfl
@[simp] theorem construct_faulted (k : Configuration) : (construct k s).faulted = s.faulted := rfl
@[simp] theorem construct_garbled (k : Configuration) : (construct k s).garbled = false := rfl
@[simp] theorem construct_script (k : Configuration) : (construct k s).script = s.script := rfl
@[simp] theorem construct_free (k : Configuration) : (construct k s).free = s.free + 1 := rfl
@[simp] theorem construct_waited (k : Configuration) : (construct k s).waited = s.waited := rfl
@[simp] theorem beginFrame_data : (beginFrame p s).data = s.data := rfl
@[simp] theorem beginFrame_clock : (beginFrame p s).clock = s.clock := rfl
@[simp] theorem beginFrame_latch : (beginFrame p s).latch = s.latch := rfl
@[simp] theorem beginFrame_pat : (beginFrame p s).pat = p := rfl
@[simp] theorem beginFrame_sact : (beginFrame p s).sact = true := rfl
@[simp] theorem beginFrame_spc : (beginFrame p s).spc = 0 := rfl
@[simp] theorem beginFrame_sr : (beginFrame p s).sr = s.sr := rfl
@[simp] theorem beginFrame_q : (beginFrame p s).q = s.q := rfl
@[simp] theorem beginFrame_cst : (beginFrame p s).cst = s.cst := rfl
@[simp] theorem beginFrame_busy : (beginFrame p s).busy = s.busy := rfl
@[simp] theorem beginFrame_armed : (beginFrame p s).armed = s.armed := rfl
@[simp] theorem beginFrame_termPending : (beginFrame p s).termPending = s.termPending := rfl
@[simp] theorem beginFrame_finalDigit : (beginFrame p s).finalDigit = s.finalDigit := rfl
@[simp] theorem beginFrame_rtmp : (beginFrame p s).rtmp = s.rtmp := rfl
@[simp] theorem beginFrame_rpc : (beginFrame p s).rpc = s.rpc := rfl
@[simp] theorem beginFrame_lpc : (beginFrame p s).lpc = s.lpc := rfl
@[simp] theorem beginFrame_cfg : (beginFrame p s).cfg = s.cfg := rfl
@[simp] theorem beginFrame_flight : (beginFrame p s).flight = s.flight := rfl
@[simp] theorem beginFrame_built : (beginFrame p s).built = s.built := rfl
@[simp] theorem beginFrame_faulted : (beginFrame p s).faulted = s.faulted := rfl
@[simp] theorem beginFrame_garbled : (beginFrame p s).garbled = (s.garbled && s.clock) := rfl
@[simp] theorem beginFrame_script : (beginFrame p s).script = s.script := rfl
@[simp] theorem beginFrame_free : (beginFrame p s).free = s.free := rfl
@[simp] theorem beginFrame_waited : (beginFrame p s).waited = s.waited := rfl
@[simp] theorem startFrame_data : (startFrame p s).data = s.data := rfl
@[simp] theorem startFrame_clock : (startFrame p s).clock = s.clock := rfl
@[simp] theorem startFrame_latch : (startFrame p s).latch = s.latch := rfl
@[simp] theorem startFrame_pat : (startFrame p s).pat = p := rfl
@[simp] theorem startFrame_sact : (startFrame p s).sact = true := rfl
@[simp] theorem startFrame_spc : (startFrame p s).spc = 0 := rfl
@[simp] theorem startFrame_sr : (startFrame p s).sr = s.sr := rfl
@[simp] theorem startFrame_q : (startFrame p s).q = s.q := rfl
@[simp] theorem startFrame_cst : (startFrame p s).cst = s.cst := rfl
@[simp] theorem startFrame_busy : (startFrame p s).busy = s.busy := rfl
@[simp] theorem startFrame_armed : (startFrame p s).armed = s.armed := rfl
@[simp] theorem startFrame_termPending : (startFrame p s).termPending = s.termPending := rfl
@[simp] theorem startFrame_finalDigit : (startFrame p s).finalDigit = s.finalDigit := rfl
@[simp] theorem startFrame_rtmp : (startFrame p s).rtmp = s.rtmp := rfl
@[simp] theorem startFrame_rpc : (startFrame p s).rpc = s.rpc := rfl
@[simp] theorem startFrame_lpc : (startFrame p s).lpc = s.lpc := rfl
@[simp] theorem startFrame_cfg : (startFrame p s).cfg = s.cfg := rfl
@[simp] theorem startFrame_flight : (startFrame p s).flight = .frame false := rfl
@[simp] theorem startFrame_built : (startFrame p s).built = s.built := rfl
@[simp] theorem startFrame_faulted : (startFrame p s).faulted = s.faulted := rfl
@[simp] theorem startFrame_garbled : (startFrame p s).garbled = (s.garbled && s.clock) := rfl
@[simp] theorem startFrame_script : (startFrame p s).script = s.script := rfl
@[simp] theorem startFrame_free : (startFrame p s).free = s.free := rfl
@[simp] theorem startFrame_waited : (startFrame p s).waited = s.waited := rfl
@[simp] theorem startReset_data : (startReset s).data = s.data := rfl
@[simp] theorem startReset_clock : (startReset s).clock = s.clock := rfl
@[simp] theorem startReset_latch : (startReset s).latch = s.latch := rfl
@[simp] theorem startReset_pat : (startReset s).pat = s.pat := rfl
@[simp] theorem startReset_sact : (startReset s).sact = s.sact := rfl
@[simp] theorem startReset_spc : (startReset s).spc = s.spc := rfl
@[simp] theorem startReset_sr : (startReset s).sr = s.sr := rfl
@[simp] theorem startReset_q : (startReset s).q = s.q := rfl
@[simp] theorem startReset_cst : (startReset s).cst = s.cst := rfl
@[simp] theorem startReset_busy : (startReset s).busy = s.busy := rfl
@[simp] theorem startReset_armed : (startReset s).armed = s.armed := rfl
@[simp] theorem startReset_termPending : (startReset s).termPending = s.termPending := rfl
@[simp] theorem startReset_finalDigit : (startReset s).finalDigit = s.finalDigit := rfl
@[simp] theorem startReset_rtmp : (startReset s).rtmp = s.rtmp := rfl
@[simp] theorem startReset_rpc : (startReset s).rpc = s.rpc := rfl
@[simp] theorem startReset_lpc : (startReset s).lpc = s.lpc := rfl
@[simp] theorem startReset_cfg : (startReset s).cfg = s.cfg := rfl
@[simp] theorem startReset_flight : (startReset s).flight = .linesOff .data false := rfl
@[simp] theorem startReset_built : (startReset s).built = s.built := rfl
@[simp] theorem startReset_faulted : (startReset s).faulted = s.faulted := rfl
@[simp] theorem startReset_garbled : (startReset s).garbled = s.garbled := rfl
@[simp] theorem startReset_script : (startReset s).script = s.script := rfl
@[simp] theorem startReset_free : (startReset s).free = s.free := rfl
@[simp] theorem startReset_waited : (startReset s).waited = s.waited := rfl
@[simp] theorem microEffect_pat : (microEffect c m s).pat = s.pat := by cases m <;> simp [microEffect]
@[simp] theorem microEffect_sact : (microEffect c m s).sact = s.sact := by cases m <;> simp [microEffect]
@[simp] theorem microEffect_spc : (microEffect c m s).spc = s.spc := by cases m <;> simp [microEffect]
@[simp] theorem microEffect_cst : (microEffect c m s).cst = s.cst := by cases m <;> simp [microEffect]
@[simp] theorem microEffect_busy : (microEffect c m s).busy = s.busy := by cases m <;> simp [microEffect]
@[simp] theorem microEffect_armed : (microEffect c m s).armed = s.armed := by cases m <;> simp [microEffect]
@[simp] theorem microEffect_termPending : (microEffect c m s).termPending = s.termPending := by cases m <;> simp [microEffect]
@[simp] theorem microEffect_finalDigit : (microEffect c m s).finalDigit = s.finalDigit := by cases m <;> simp [microEffect]
@[simp] theorem microEffect_rtmp : (microEffect c m s).rtmp = s.rtmp := by cases m <;> simp [microEffect]
@[simp] theorem microEffect_rpc : (microEffect c m s).rpc = s.rpc := by cases m <;> simp [microEffect]
@[simp] theorem microEffect_lpc : (microEffect c m s).lpc = s.lpc := by cases m <;> simp [microEffect]
@[simp] theorem microEffect_cfg : (microEffect c m s).cfg = s.cfg := by cases m <;> simp [microEffect]
@[simp] theorem microEffect_flight : (microEffect c m s).flight = s.flight := by cases m <;> simp [microEffect]
@[simp] theorem microEffect_built : (microEffect c m s).built = s.built := by cases m <;> simp [microEffect]
@[simp] theorem microEffect_faulted : (microEffect c m s).faulted = s.faulted := by cases m <;> simp [microEffect]
@[simp] theorem microEffect_garbled : (microEffect c m s).garbled = s.garbled := by cases m <;> simp [microEffect]
@[simp] theorem microEffect_script : (microEffect c m s).script = s.script := by cases m <;> simp [microEffect]
@[simp] theorem frameStep_pat : (frameStep c s).pat = s.pat := by simp [frameStep]
@[simp] theorem frameStep_sact : (frameStep c s).sact = decide (s.spc.val ≠ 46) := by simp [frameStep]
@[simp] theorem frameStep_spc : (frameStep c s).spc = bump s.spc := by simp [frameStep]
@[simp] theorem frameStep_cst : (frameStep c s).cst = s.cst := by simp [frameStep]
@[simp] theorem frameStep_busy : (frameStep c s).busy = s.busy := by simp [frameStep]
@[simp] theorem frameStep_armed : (frameStep c s).armed = s.armed := by simp [frameStep]
@[simp] theorem frameStep_termPending : (frameStep c s).termPending = s.termPending := by simp [frameStep]
@[simp] theorem frameStep_finalDigit : (frameStep c s).finalDigit = s.finalDigit := by simp [frameStep]
@[simp] theorem frameStep_rtmp : (frameStep c s).rtmp = s.rtmp := by simp [frameStep]
@[simp] theorem frameStep_rpc : (frameStep c s).rpc = s.rpc := by simp [frameStep]
@[simp] theorem frameStep_lpc : (frameStep c s).lpc = s.lpc := by simp [frameStep]
@[simp] theorem frameStep_cfg : (frameStep c s).cfg = s.cfg := by simp [frameStep]
@[simp] theorem frameStep_flight : (frameStep c s).flight = s.flight := by simp [frameStep]
@[simp] theorem frameStep_built : (frameStep c s).built = s.built := by simp [frameStep]
@[simp] theorem frameStep_faulted : (frameStep c s).faulted = s.faulted := by simp [frameStep]
@[simp] theorem frameStep_garbled : (frameStep c s).garbled = s.garbled := by simp [frameStep]
@[simp] theorem frameStep_script : (frameStep c s).script = s.script := by simp [frameStep]
@[simp] theorem enterDueFrame_cst : (enterDueFrame s).cst = s.cst := by unfold enterDueFrame; split <;> rfl
@[simp] theorem enterDueFrame_busy : (enterDueFrame s).busy = s.busy := by unfold enterDueFrame; split <;> rfl
@[simp] theorem enterDueFrame_armed : (enterDueFrame s).armed = s.armed := by unfold enterDueFrame; split <;> rfl
@[simp] theorem enterDueFrame_termPending : (enterDueFrame s).termPending = s.termPending := by unfold enterDueFrame; split <;> rfl
@[simp] theorem enterDueFrame_finalDigit : (enterDueFrame s).finalDigit = s.finalDigit := by unfold enterDueFrame; split <;> rfl
@[simp] theorem enterDueFrame_rtmp : (enterDueFrame s).rtmp = s.rtmp := by unfold enterDueFrame; split <;> rfl
@[simp] theorem enterDueFrame_rpc : (enterDueFrame s).rpc = s.rpc := by unfold enterDueFrame; split <;> rfl
@[simp] theorem enterDueFrame_lpc : (enterDueFrame s).lpc = s.lpc := by unfold enterDueFrame; split <;> rfl
@[simp] theorem enterDueFrame_cfg : (enterDueFrame s).cfg = s.cfg := by unfold enterDueFrame; split <;> rfl
@[simp] theorem enterDueFrame_flight : (enterDueFrame s).flight = s.flight := by unfold enterDueFrame; split <;> rfl
@[simp] theorem enterDueFrame_built : (enterDueFrame s).built = s.built := by unfold enterDueFrame; split <;> rfl
@[simp] theorem enterDueFrame_faulted : (enterDueFrame s).faulted = s.faulted := by unfold enterDueFrame; split <;> rfl
@[simp] theorem enterDueFrame_garbled :
    (enterDueFrame s).garbled = (s.garbled && (s.sact || s.clock)) := by
  unfold enterDueFrame; cases s.sact <;> simp
@[simp] theorem enterDueFrame_script : (enterDueFrame s).script = s.script := by unfold enterDueFrame; split <;> rfl
@[simp] theorem enterDueFrame_free : (enterDueFrame s).free = s.free := by unfold enterDueFrame; split <;> rfl
@[simp] theorem enterDueFrame_data : (enterDueFrame s).data = s.data := by unfold enterDueFrame; split <;> rfl
@[simp] theorem enterDueFrame_clock : (enterDueFrame s).clock = s.clock := by unfold enterDueFrame; split <;> rfl
@[simp] theorem enterDueFrame_latch : (enterDueFrame s).latch = s.latch := by unfold enterDueFrame; split <;> rfl
@[simp] theorem enterDueFrame_sr : (enterDueFrame s).sr = s.sr := by unfold enterDueFrame; split <;> rfl
@[simp] theorem enterDueFrame_q : (enterDueFrame s).q = s.q := by unfold enterDueFrame; split <;> rfl
@[simp] theorem enterDueFrame_waited : (enterDueFrame s).waited = s.waited := by unfold enterDueFrame; split <;> rfl
@[simp] theorem displayStep_cst : (displayStep c s).cst = s.cst := by unfold displayStep; split <;> simp
@[simp] theorem displayStep_busy : (displayStep c s).busy = s.busy := by unfold displayStep; split <;> simp
@[simp] theorem displayStep_armed : (displayStep c s).armed = s.armed := by unfold displayStep; split <;> simp
@[simp] theorem displayStep_termPending : (displayStep c s).termPending = s.termPending := by unfold displayStep; split <;> simp
@[simp] theorem displayStep_finalDigit : (displayStep c s).finalDigit = s.finalDigit := by unfold displayStep; split <;> simp
@[simp] theorem displayStep_rtmp : (displayStep c s).rtmp = s.rtmp := by unfold displayStep; split <;> simp
@[simp] theorem displayStep_rpc : (displayStep c s).rpc = s.rpc := by unfold displayStep; split <;> simp
@[simp] theorem displayStep_lpc : (displayStep c s).lpc = s.lpc := by unfold displayStep; split <;> simp
@[simp] theorem displayStep_cfg : (displayStep c s).cfg = s.cfg := by unfold displayStep; split <;> simp
@[simp] theorem displayStep_built : (displayStep c s).built = s.built := by unfold displayStep; split <;> simp
@[simp] theorem displayStep_faulted : (displayStep c s).faulted = s.faulted := by unfold displayStep; split <;> simp
@[simp] theorem displayStep_script : (displayStep c s).script = s.script := by unfold displayStep; split <;> simp
@[simp] theorem keepUnfinished_data (w : OpWord) (i : Instr) : (keepUnfinished w i s).data = s.data := rfl
@[simp] theorem keepUnfinished_clock (w : OpWord) (i : Instr) : (keepUnfinished w i s).clock = s.clock := rfl
@[simp] theorem keepUnfinished_latch (w : OpWord) (i : Instr) : (keepUnfinished w i s).latch = s.latch := rfl
@[simp] theorem keepUnfinished_pat (w : OpWord) (i : Instr) : (keepUnfinished w i s).pat = s.pat := rfl
@[simp] theorem keepUnfinished_sact (w : OpWord) (i : Instr) : (keepUnfinished w i s).sact = s.sact := rfl
@[simp] theorem keepUnfinished_spc (w : OpWord) (i : Instr) : (keepUnfinished w i s).spc = s.spc := rfl
@[simp] theorem keepUnfinished_sr (w : OpWord) (i : Instr) : (keepUnfinished w i s).sr = s.sr := rfl
@[simp] theorem keepUnfinished_q (w : OpWord) (i : Instr) : (keepUnfinished w i s).q = s.q := rfl
@[simp] theorem keepUnfinished_cst (w : OpWord) (i : Instr) : (keepUnfinished w i s).cst = s.cst := rfl
@[simp] theorem keepUnfinished_busy (w : OpWord) (i : Instr) : (keepUnfinished w i s).busy = s.busy := rfl
@[simp] theorem keepUnfinished_armed (w : OpWord) (i : Instr) : (keepUnfinished w i s).armed = s.armed := rfl
@[simp] theorem keepUnfinished_termPending (w : OpWord) (i : Instr) : (keepUnfinished w i s).termPending = s.termPending := rfl
@[simp] theorem keepUnfinished_finalDigit (w : OpWord) (i : Instr) : (keepUnfinished w i s).finalDigit = s.finalDigit := rfl
@[simp] theorem keepUnfinished_rtmp (w : OpWord) (i : Instr) : (keepUnfinished w i s).rtmp = s.rtmp := rfl
@[simp] theorem keepUnfinished_rpc (w : OpWord) (i : Instr) : (keepUnfinished w i s).rpc = s.rpc := rfl
@[simp] theorem keepUnfinished_lpc (w : OpWord) (i : Instr) : (keepUnfinished w i s).lpc = s.lpc := rfl
@[simp] theorem keepUnfinished_cfg (w : OpWord) (i : Instr) : (keepUnfinished w i s).cfg = s.cfg := rfl
@[simp] theorem keepUnfinished_flight (w : OpWord) (i : Instr) : (keepUnfinished w i s).flight = s.flight := rfl
@[simp] theorem keepUnfinished_built (w : OpWord) (i : Instr) : (keepUnfinished w i s).built = s.built := rfl
@[simp] theorem keepUnfinished_faulted (w : OpWord) (i : Instr) : (keepUnfinished w i s).faulted = s.faulted := rfl
@[simp] theorem keepUnfinished_garbled (w : OpWord) (i : Instr) : (keepUnfinished w i s).garbled = s.garbled := rfl
@[simp] theorem keepUnfinished_free (w : OpWord) (i : Instr) : (keepUnfinished w i s).free = s.free := rfl
@[simp] theorem keepUnfinished_waited (w : OpWord) (i : Instr) : (keepUnfinished w i s).waited = s.waited := rfl

end

end Sys2Proof.Machine
end

