-- ==== Sys2Proof/Laws/Frame.lean ====
section
/-! SUPPORT. The laws of the frame program (R130): which micro-step stands at which position, what one
frame step does, and what the five micro-steps of one bit do. -/

namespace Sys2Proof.Machine

theorem frameOp_data (p : Byte) (k : Fin 47) (i : Nat) (hi : i < 8) (hk : k.val = 2 + 5 * i) :
    frameOp p k = .write .data (patternBit p i) := by
  have h1 : (k.val - 2) % 5 = 0 := by omega
  have h2 : (k.val - 2) / 5 = i := by omega
  have h3 : k.val < 42 := by omega
  simp only [frameOp]
  rw [if_neg (by omega), if_neg (by omega), if_pos h3]
  simp only [h1, h2]

theorem frameOp_clockHigh (p : Byte) (k : Fin 47) (i : Nat) (hi : i < 8) (hk : k.val = 4 + 5 * i) :
    frameOp p k = .write .clock true := by
  have h1 : (k.val - 2) % 5 = 2 := by omega
  have h3 : k.val < 42 := by omega
  simp only [frameOp]
  rw [if_neg (by omega), if_neg (by omega), if_pos h3]
  simp only [h1]

theorem frameOp_clockLow (p : Byte) (k : Fin 47) (i : Nat) (hi : i < 8) (hk : k.val = 6 + 5 * i) :
    frameOp p k = .write .clock false := by
  have h1 : (k.val - 2) % 5 = 4 := by omega
  have h3 : k.val < 42 := by omega
  simp only [frameOp]
  rw [if_neg (by omega), if_neg (by omega), if_pos h3]
  simp only [h1]

theorem frameOp_bitWait (p : Byte) (k : Fin 47) (i : Nat) (hi : i < 8)
    (hk : k.val = 3 + 5 * i ∨ k.val = 5 + 5 * i) : frameOp p k = .wait := by
  have h3 : k.val < 42 := by omega
  have h1 : (k.val - 2) % 5 = 1 ∨ (k.val - 2) % 5 = 3 := by omega
  simp only [frameOp]
  rw [if_neg (by omega), if_neg (by omega), if_pos h3]
  rcases h1 with h1 | h1 <;> simp only [h1]

/-- The micro-steps outside the eight bits (R130). -/
theorem frameOp_ends (p : Byte) :
    frameOp p 0 = .wait ∧ frameOp p 1 = .write .latch false ∧ frameOp p 42 = .wait ∧
    frameOp p 43 = .write .latch true ∧ frameOp p 44 = .wait ∧
    frameOp p 45 = .write .latch false ∧ frameOp p 46 = .wait :=
  ⟨rfl, rfl, rfl, rfl, rfl, rfl, rfl⟩

/-- Every position of the frame program is one of these (R130). -/
theorem frameOp_cases (p : Byte) (k : Fin 47) :
    (frameOp p k = .wait) ∨
    (frameOp p k = .write .latch false ∧ (k.val = 1 ∨ k.val = 45)) ∨
    (frameOp p k = .write .latch true ∧ k.val = 43) ∨
    (∃ i, i < 8 ∧ k.val = 2 + 5 * i ∧ frameOp p k = .write .data (patternBit p i)) ∨
    (∃ i, i < 8 ∧ k.val = 4 + 5 * i ∧ frameOp p k = .write .clock true) ∨
    (∃ i, i < 8 ∧ k.val = 6 + 5 * i ∧ frameOp p k = .write .clock false) := by
  by_cases h : 2 ≤ k.val ∧ k.val < 42
  · have hm : (k.val - 2) % 5 = 0 ∨ (k.val - 2) % 5 = 1 ∨ (k.val - 2) % 5 = 2 ∨
        (k.val - 2) % 5 = 3 ∨ (k.val - 2) % 5 = 4 := by omega
    have hk : k.val = 2 + 5 * ((k.val - 2) / 5) + (k.val - 2) % 5 := by omega
    have hi : (k.val - 2) / 5 < 8 := by omega
    rcases hm with hm | hm | hm | hm | hm
    · exact .inr (.inr (.inr (.inl ⟨_, hi, by omega, frameOp_data p k _ hi (by omega)⟩)))
    · exact .inl (frameOp_bitWait p k _ hi (.inl (by omega)))
    · exact .inr (.inr (.inr (.inr (.inl
        ⟨_, hi, by omega, frameOp_clockHigh p k _ hi (by omega)⟩))))
    · exact .inl (frameOp_bitWait p k _ hi (.inr (by omega)))
    · exact .inr (.inr (.inr (.inr (.inr
        ⟨_, hi, by omega, frameOp_clockLow p k _ hi (by omega)⟩))))
  · have hk : k = 0 ∨ k = 1 ∨ k = 42 ∨ k = 43 ∨ k = 44 ∨ k = 45 ∨ k = 46 := by
      simp only [Fin.ext_iff]; simp; omega
    obtain ⟨h0, h1, h42, h43, h44, h45, h46⟩ := frameOp_ends p
    rcases hk with rfl | rfl | rfl | rfl | rfl | rfl | rfl <;> simp_all

/-- A micro-step that is not the last: its effect, and `SPC` one further (R130). -/
theorem frameStep_mid (c : Caller) (s : State) (m : MicroOp) (k : Nat) (hk : s.spc.val = k)
    (hlt : k < 46) (h : frameOp s.pat s.spc = m) :
    frameStep c s =
      { microEffect c m s with spc := ⟨k + 1, by omega⟩, sact := true } := by
  subst h hk
  have : s.spc.val ≠ 46 := by omega
  simp [frameStep, bump_of_lt s.spc (by omega), this]

/-- The last micro-step: a wait, and the frame is over (R130; log entry 12 for `SPC`). -/
theorem frameStep_last (c : Caller) (s : State) (hk : s.spc = 46) :
    frameStep c s = { await c s.cfg.bitDelay s with sact := false } := by
  simp [frameStep, hk, (frameOp_ends s.pat).2.2.2.2.2.2, microEffect, bump]

/-- The five micro-steps of bit `i`, entered with the clock low in a frame that has not been cut: the
data line takes the bit, and the bit is shifted in (R66, R91). -/
theorem frameStep_bit (c : Caller) (s : State) (i : Nat) (hi : i < 8) (hs : s.spc.val = 2 + 5 * i)
    (hc : s.clock = false) (hg : s.garbled = false) :
    (frameStep c)^[5] s =
      { s with
        spc := ⟨7 + 5 * i, by omega⟩, sact := true, data := patternBit s.pat i, clock := false
        sr := shiftIn (patternBit s.pat i) s.sr
        waited := (s.waited.add c s.cfg.bitDelay).add c s.cfg.bitDelay } := by
  rw [Function.iterate_succ_apply,
    frameStep_mid c s _ (2 + 5 * i) hs (by omega) (frameOp_data _ _ i hi hs),
    Function.iterate_succ_apply,
    frameStep_mid c _ .wait (3 + 5 * i) (by simp; omega) (by omega)
      (frameOp_bitWait _ _ i hi (by simp; omega)),
    Function.iterate_succ_apply,
    frameStep_mid c _ (.write .clock true) (4 + 5 * i) (by simp; omega) (by omega)
      (frameOp_clockHigh _ _ i hi (by simp; omega)),
    Function.iterate_succ_apply,
    frameStep_mid c _ .wait (5 + 5 * i) (by simp; omega) (by omega)
      (frameOp_bitWait _ _ i hi (by simp; omega)),
    Function.iterate_succ_apply,
    frameStep_mid c _ (.write .clock false) (6 + 5 * i) (by simp; omega) (by omega)
      (frameOp_clockLow _ _ i hi (by simp; omega))]
  simp [microEffect, lineWrite, garble, driveLine, await, rises, hc, hg]
  omega

end Sys2Proof.Machine
end

