-- ==== Sys2Proof/Laws/Calls.lean ====
section
/-! SUPPORT. What one micro-step of a display operation of the controller does (R150, R153), what a whole
frame leaves alone (R128), and that a frame keeps its invariant (R66, R92). -/

namespace Sys2Proof.Machine

/-- A micro-step in a frame: the frame's own, and with the last one the frame is over (R153). -/
theorem displayStep_frame (c : Caller) (s : State) (b : Bool) (h : s.flight = .frame b) :
    displayStep c s = { frameStep c (enterDueFrame s) with
      flight := if (enterDueFrame s).spc.val ≠ 46 then .frame b
        else if b then .linesOff .data true else .idle } := by
  simp [displayStep, h]

/-- A micro-step in a `LINES_OFF` of `RESET` (R154). -/
theorem displayStep_linesOff (c : Caller) (s : State) (l : Line) (b : Bool)
    (h : s.flight = .linesOff l b) :
    displayStep c s = { lineWrite l false s with flight := afterLineOff l b } := by
  simp [displayStep, h]

/-- What a micro-step, a call and its end leave alone, a step of a call leaves alone. -/
theorem callStep_field {β : Type} (g : State → β) (c : Caller) (start done : State → State)
    (s : State) (h1 : ∀ u, g (displayStep c u) = g u) (h2 : ∀ u, g (start u) = g u)
    (h3 : ∀ u, g (done u) = g u) : g (callStep c start done s) = g s := by
  unfold callStep
  simp only
  split <;> split <;> simp [h1, h2, h3]

/-- What a function leaves alone, its iterates leave alone. -/
theorem iterate_field {β : Type} (f : State → State) (g : State → β) (h : ∀ s, g (f s) = g s)
    (n : Nat) (s : State) : g (f^[n] s) = g s := by
  induction n generalizing s with
  | zero => rfl
  | succ n ih => rw [Function.iterate_succ_apply, ih, h]

/-- The registers of the controller, the mark of the run and the script: all that no frame changes
(R129). -/
def controlView (s : State) :=
  (s.cst, s.busy, s.armed, s.termPending, s.finalDigit, s.rtmp, s.rpc, s.lpc, s.cfg, s.flight,
    s.faulted, s.built, s.script)

/-- A whole frame changes no register of the controller. -/
theorem sendFrame_controlView (c : Caller) (p : Byte) (s : State) :
    controlView (sendFrame c p s) = controlView s := by
  unfold sendFrame
  rw [iterate_field _ controlView (by intro s; simp [controlView])]
  simp [controlView]

/-- After `k` micro-steps of a frame `SPC` is `k` (R26). -/
theorem iterate_frameStep_spc (c : Caller) (p : Byte) (s : State) (k : Nat) (hk : k ≤ 46) :
    ((frameStep c)^[k] (beginFrame p s)).spc.val = k := by
  induction k with
  | zero => rfl
  | succ k ih =>
    rw [Function.iterate_succ_apply', frameStep_spc, bump_val _ (by rw [ih (by omega)]; omega),
      ih (by omega)]

/-- After a whole frame no frame is in flight (R25; log entry 12 for `SPC`). -/
theorem sendFrame_over (c : Caller) (p : Byte) (s : State) :
    (sendFrame c p s).sact = false ∧ (sendFrame c p s).spc = 46 := by
  have h46 := iterate_frameStep_spc c p s 46 le_rfl
  unfold sendFrame
  rw [Function.iterate_succ_apply']
  constructor
  · rw [frameStep_sact, h46]; rfl
  · rw [frameStep_spc, bump_last _ (by omega)]; exact Fin.ext h46

/-- The shift as a number: the new bit at the top, the rest halved (R63). -/
theorem shiftIn_toNat (d : Bool) (r : Byte) : (shiftIn d r).toNat = 128 * d.toNat + r.toNat / 2 := by
  have h := r.isLt
  have : (shiftIn d r) = BitVec.ofNat 8 (128 * d.toNat + r.toNat / 2) := by
    apply BitVec.eq_of_getLsbD_eq
    intro i hi
    rw [shiftIn_bit _ _ _ hi]
    have : i = 0 ∨ i = 1 ∨ i = 2 ∨ i = 3 ∨ i = 4 ∨ i = 5 ∨ i = 6 ∨ i = 7 := by omega
    rcases this with rfl | rfl | rfl | rfl | rfl | rfl | rfl | rfl <;> cases d <;>
      simp [BitVec.getElem_eq_testBit_toNat, Nat.testBit_eq_decide_div_mod_eq] <;> omega
  rw [this]; cases d <;> simp <;> omega

end Sys2Proof.Machine

namespace Sys2Proof.Safety

open Sys2Proof.Machine

/-- A frame entered with clock and latch low is in order, even where the connected register held
arbitrary contents (R66, R225). -/
theorem frameInv_begin (p : Byte) (s : State) (hc : s.clock = false) (hl : s.latch = false) :
    FrameInv (beginFrame p s) := by
  constructor <;> simp [hc, hl, clocksDone]
  · have := s.sr.isLt; omega

/-- A frame in order stays in order (R66, R92, R130). -/
theorem frameInv_step (c : Caller) (s : State) (h : FrameInv s) (hk : s.spc.val ≠ 46) :
    FrameInv (frameStep c s) := by
  obtain ⟨h0, h1, h2, h3, h4, h5⟩ := h
  have hlt := s.spc.isLt
  by_cases hmid : 2 ≤ s.spc.val ∧ s.spc.val < 42
  · have hm : s.spc.val % 5 = 0 ∨ s.spc.val % 5 = 1 ∨ s.spc.val % 5 = 2 ∨ s.spc.val % 5 = 3 ∨ s.spc.val % 5 = 4 := by omega
    rcases hm with hm | hm | hm | hm | hm
    · rw [frameStep_mid c s .wait _ rfl (by omega) (frameOp_bitWait _ _ ((s.spc.val-2)/5) (by omega) (.inr (by omega)))]
      have e : clocksDone (s.spc.val+1) = clocksDone s.spc.val := by unfold clocksDone; omega
      constructor <;> simp [microEffect, e, h0, h1, h2, h4, -Bool.decide_and, -Bool.decide_or, decide_eq_decide]
      · omega
      · omega
      · intro _; rw [h3 (by omega)]; congr 1; omega
      · intro _; exact h5 (by omega)
    · rw [frameStep_mid c s (.write .clock false) _ rfl (by omega) (frameOp_clockLow _ _ ((s.spc.val-6)/5) (by omega) (by omega))]
      have e : clocksDone (s.spc.val+1) = clocksDone s.spc.val := by unfold clocksDone; omega
      constructor <;> simp [microEffect, e, h0, h1, h2, h4, -Bool.decide_and, -Bool.decide_or, decide_eq_decide]
      · omega
      · omega
      · intro _; rw [h3 (by omega)]; congr 1; omega
      · intro _; exact h5 (by omega)
    · rw [frameStep_mid c s (.write .data (patternBit s.pat ((s.spc.val-2)/5))) _ rfl (by omega) (frameOp_data _ _ ((s.spc.val-2)/5) (by omega) (by omega))]
      have e : clocksDone (s.spc.val+1) = clocksDone s.spc.val := by unfold clocksDone; omega
      constructor <;> simp [microEffect, e, h0, h1, h2, h4, -Bool.decide_and, -Bool.decide_or, decide_eq_decide]
      · omega
      · omega
      · intro _; congr 1; omega
      · intro _; exact h5 (by omega)
    · rw [frameStep_mid c s .wait _ rfl (by omega) (frameOp_bitWait _ _ ((s.spc.val-3)/5) (by omega) (.inl (by omega)))]
      have e : clocksDone (s.spc.val+1) = clocksDone s.spc.val := by unfold clocksDone; omega
      constructor <;> simp [microEffect, e, h0, h1, h2, h4, -Bool.decide_and, -Bool.decide_or, decide_eq_decide]
      · omega
      · omega
      · intro _; rw [h3 (by omega)]; congr 1; omega
      · intro _; exact h5 (by omega)
    · rw [frameStep_mid c s (.write .clock true) _ rfl (by omega) (frameOp_clockHigh _ _ ((s.spc.val-4)/5) (by omega) (by omega))]
      have hclk : s.clock = false := by rw [h1]; simp; omega
      have hd := h3 (by omega)
      constructor <;> simp [microEffect, h0, h2, hclk, -Bool.decide_and, -Bool.decide_or, decide_eq_decide]
      · omega
      · omega
      · intro _; rw [h3 (by omega)]; congr 1; omega
      · have hi : s.spc.val = 4 ∨ s.spc.val = 9 ∨ s.spc.val = 14 ∨ s.spc.val = 19 ∨ s.spc.val = 24 ∨ s.spc.val = 29 ∨ s.spc.val = 34 ∨ s.spc.val = 39 := by omega
        have hp := s.pat.isLt
        rw [shiftIn_toNat]
        rcases hi with hi | hi | hi | hi | hi | hi | hi | hi <;> rw [hi] at h4 hd ⊢ <;>
          simp [clocksDone, patternBit] at h4 hd ⊢ <;> rw [hd] <;>
          simp [BitVec.getElem_eq_testBit_toNat, Nat.testBit_eq_decide_div_mod_eq, Bool.toNat, Bool.cond_decide] <;> split <;> omega
      · intro _; exact h5 (by omega)
  · have hk' : s.spc = 0 ∨ s.spc = 1 ∨ s.spc = 42 ∨ s.spc = 43 ∨ s.spc = 44 ∨ s.spc = 45 := by
      simp only [Fin.ext_iff]; simp; omega
    rcases hk' with e | e | e | e | e | e
    · rw [frameStep_mid c s .wait _ rfl (by omega) (by rw [e]; rfl)]
      constructor <;> simp_all [microEffect, clocksDone]
    · rw [frameStep_mid c s (.write .latch false) _ rfl (by omega) (by rw [e]; rfl)]
      constructor <;> simp_all [microEffect, clocksDone]
    · rw [frameStep_mid c s .wait _ rfl (by omega) (by rw [e]; rfl)]
      constructor <;> simp_all [microEffect, clocksDone]
    · rw [frameStep_mid c s (.write .latch true) _ rfl (by omega) (by rw [e]; rfl)]
      constructor <;> simp_all [microEffect, clocksDone]
      have := s.pat.isLt; apply BitVec.eq_of_toNat_eq; omega
    · rw [frameStep_mid c s .wait _ rfl (by omega) (by rw [e]; rfl)]
      constructor <;> simp_all [microEffect, clocksDone]
    · rw [frameStep_mid c s (.write .latch false) _ rfl (by omega) (by rw [e]; rfl)]
      constructor <;> simp_all [microEffect, clocksDone]

end Sys2Proof.Safety
end

