-- ==== Sys2Proof/Laws/PerInstr.lean ====
section
/-! SUPPORT. A statement made of every operation as syntax, one lemma per constructor: the shape of its
code (R99, R102, R103, R104). -/

namespace Sys2Proof.Laws.CodeShape

/-- The family of an operation: line micro-operations, display operations, the controller (R99). -/
inductive Family where
  | line
  | display
  | controller
  deriving DecidableEq, Repr

/-- The family an operation belongs to (R102, R103, R104). -/
def family : Instr → Family
  | .dataLo => .line
  | .dataHi => .line
  | .clkLo => .line
  | .clkHi => .line
  | .latLo => .line
  | .latHi => .line
  | .wait _ => .line
  | .shiftout _ => .display
  | .clear => .display
  | .showdigit _ => .display
  | .reset => .display
  | .poweron _ => .controller
  | .setup => .controller
  | .tick => .controller
  | .press => .controller
  | .release => .controller
  | .term => .controller
  | .roll => .controller
  | .shutdown => .controller

/-- The code is one of 5 bits, its two upper bits name the family, and a word with this code names an
operation of that family or none, whatever operand stands beside it (R99, R100). -/
def Statement (i : Instr) : Prop :=
  (encode i).code.toNat < 32 ∧
  (encode i).code.toNat / 8 =
    (match family i with | .line => 0 | .display => 1 | .controller => 2) ∧
  ∀ (o : Operand) (j : Instr), decode ⟨(encode i).code, o⟩ = .ok j → family j = family i

theorem dataLo : Statement .dataLo := by
  refine ⟨by decide, rfl, fun o j h => ?_⟩
  cases o <;> first | (cases h; done) | (cases h; rfl)

theorem dataHi : Statement .dataHi := by
  refine ⟨by decide, rfl, fun o j h => ?_⟩
  cases o <;> first | (cases h; done) | (cases h; rfl)

theorem clkLo : Statement .clkLo := by
  refine ⟨by decide, rfl, fun o j h => ?_⟩
  cases o <;> first | (cases h; done) | (cases h; rfl)

theorem clkHi : Statement .clkHi := by
  refine ⟨by decide, rfl, fun o j h => ?_⟩
  cases o <;> first | (cases h; done) | (cases h; rfl)

theorem latLo : Statement .latLo := by
  refine ⟨by decide, rfl, fun o j h => ?_⟩
  cases o <;> first | (cases h; done) | (cases h; rfl)

theorem latHi : Statement .latHi := by
  refine ⟨by decide, rfl, fun o j h => ?_⟩
  cases o <;> first | (cases h; done) | (cases h; rfl)

theorem wait (d : Duration) : Statement (.wait d) := by
  refine ⟨show 6 < 32 by decide, show 6 / 8 = 0 by decide, fun o j h => ?_⟩
  cases o <;> first | (cases h; done) | (cases h; rfl)

theorem shiftout (p : Byte) : Statement (.shiftout p) := by
  refine ⟨show 8 < 32 by decide, show 8 / 8 = 1 by decide, fun o j h => ?_⟩
  cases o <;> first | (cases h; done) | (cases h; rfl)

theorem clear : Statement .clear := by
  refine ⟨by decide, rfl, fun o j h => ?_⟩
  cases o <;> first | (cases h; done) | (cases h; rfl)

theorem showdigit (n : Int) : Statement (.showdigit n) := by
  refine ⟨show 10 < 32 by decide, show 10 / 8 = 1 by decide, fun o j h => ?_⟩
  cases o <;> first | (cases h; done) | (cases h; rfl)

theorem reset : Statement .reset := by
  refine ⟨by decide, rfl, fun o j h => ?_⟩
  cases o <;> first | (cases h; done) | (cases h; rfl)

theorem poweron (c : SuppliedConfig) : Statement (.poweron c) := by
  refine ⟨show 16 < 32 by decide, show 16 / 8 = 2 by decide, fun o j h => ?_⟩
  cases o <;> first | (cases h; done) | (cases h; rfl)

theorem setup : Statement .setup := by
  refine ⟨by decide, rfl, fun o j h => ?_⟩
  cases o <;> first | (cases h; done) | (cases h; rfl)

theorem tick : Statement .tick := by
  refine ⟨by decide, rfl, fun o j h => ?_⟩
  cases o <;> first | (cases h; done) | (cases h; rfl)

theorem press : Statement .press := by
  refine ⟨by decide, rfl, fun o j h => ?_⟩
  cases o <;> first | (cases h; done) | (cases h; rfl)

theorem release : Statement .release := by
  refine ⟨by decide, rfl, fun o j h => ?_⟩
  cases o <;> first | (cases h; done) | (cases h; rfl)

theorem term : Statement .term := by
  refine ⟨by decide, rfl, fun o j h => ?_⟩
  cases o <;> first | (cases h; done) | (cases h; rfl)

theorem roll : Statement .roll := by
  refine ⟨by decide, rfl, fun o j h => ?_⟩
  cases o <;> first | (cases h; done) | (cases h; rfl)

theorem shutdown : Statement .shutdown := by
  refine ⟨by decide, rfl, fun o j h => ?_⟩
  cases o <;> first | (cases h; done) | (cases h; rfl)

end Sys2Proof.Laws.CodeShape
end

