-- ==== Sys2Proof/Laws/Roll.lean ====
section
/-! SUPPORT. Which action stands at which position of the roll program (R180). -/

namespace Sys2Proof.Machine

open Sys2Proof.Safety

/-- The draw of spin step `k` (R180). -/
theorem rollAction_drawSpin {r : Fin 51} {k : Nat} (hk : k < 9) (hr : r.val = 2 + 3 * k) :
    rollAction r = .drawSpin := by
  have h0 : r.val ≠ 0 := by omega
  have h1 : r.val ≠ 1 := by omega
  have h2 : r.val < 29 := by omega
  have h3 : (r.val - 2) % 3 = 0 := by omega
  simp [rollAction, h0, h1, h2, h3]

/-- The display call of spin step `k` (R180). -/
theorem rollAction_showSpin {r : Fin 51} {k : Nat} (hk : k < 9) (hr : r.val = 3 + 3 * k) :
    rollAction r = .showSpin := by
  have h0 : r.val ≠ 0 := by omega
  have h1 : r.val ≠ 1 := by omega
  have h2 : r.val < 29 := by omega
  have h3 : (r.val - 2) % 3 = 1 := by omega
  simp [rollAction, h0, h1, h2, h3]

/-- The sleep of spin step `k` (R180). -/
theorem rollAction_spinSleep {r : Fin 51} {k : Nat} (hk : k < 9) (hr : r.val = 4 + 3 * k) :
    rollAction r = .sleep (spinDelay k) := by
  have h0 : r.val ≠ 0 := by omega
  have h1 : r.val ≠ 1 := by omega
  have h2 : r.val < 29 := by omega
  have h3 : (r.val - 2) % 3 = 2 := by omega
  have h4 : (r.val - 2) / 3 = k := by omega
  simp [rollAction, h0, h1, h2, h3, h4]

/-- The digit of blink cycle `j` (R180). -/
theorem rollAction_blinkShow {r : Fin 51} {j : Nat} (hj : j < 5) (hr : r.val = 29 + 4 * j) :
    rollAction r = .showFinal := by
  have h0 : r.val ≠ 0 := by omega
  have h1 : r.val ≠ 1 := by omega
  have h2 : ¬ r.val < 29 := by omega
  have h3 : r.val < 49 := by omega
  have h4 : (r.val - 29) % 4 = 0 := by omega
  simp [rollAction, h0, h1, h2, h3, h4]

/-- The first sleep of blink cycle `j` (R180). -/
theorem rollAction_blinkOnSleep {r : Fin 51} {j : Nat} (hj : j < 5) (hr : r.val = 30 + 4 * j) :
    rollAction r = .sleep 500 := by
  have h0 : r.val ≠ 0 := by omega
  have h1 : r.val ≠ 1 := by omega
  have h2 : ¬ r.val < 29 := by omega
  have h3 : r.val < 49 := by omega
  have h4 : (r.val - 29) % 4 = 1 := by omega
  simp [rollAction, h0, h1, h2, h3, h4, Config.blinkOn]

/-- The blanking of blink cycle `j` (R180). -/
theorem rollAction_blinkBlank {r : Fin 51} {j : Nat} (hj : j < 5) (hr : r.val = 31 + 4 * j) :
    rollAction r = .blank := by
  have h0 : r.val ≠ 0 := by omega
  have h1 : r.val ≠ 1 := by omega
  have h2 : ¬ r.val < 29 := by omega
  have h3 : r.val < 49 := by omega
  have h4 : (r.val - 29) % 4 = 2 := by omega
  simp [rollAction, h0, h1, h2, h3, h4]

/-- The second sleep of blink cycle `j` (R180). -/
theorem rollAction_blinkOffSleep {r : Fin 51} {j : Nat} (hj : j < 5) (hr : r.val = 32 + 4 * j) :
    rollAction r = .sleep 500 := by
  have h0 : r.val ≠ 0 := by omega
  have h1 : r.val ≠ 1 := by omega
  have h2 : ¬ r.val < 29 := by omega
  have h3 : r.val < 49 := by omega
  have h4 : (r.val - 29) % 4 = 3 := by omega
  simp [rollAction, h0, h1, h2, h3, h4, Config.blinkOff]

/-- The last display call of the roll (R180). -/
theorem rollAction_lastShow {r : Fin 51} (hr : r.val = 49) : rollAction r = .showFinal := by
  have : r = 49 := Fin.ext hr
  subst this; rfl

/-- Action 0, and no other, is the one that the accepted press performs (R177, R180). -/
theorem rollAction_pressed_iff (r : Fin 51) : rollAction r = .pressed ↔ r.val = 0 := by
  revert r; decide

/-- The return to `IDLE` is the last action (R180). -/
theorem rollAction_finish_iff (r : Fin 51) : rollAction r = .finish ↔ r.val = 50 := by
  revert r; decide

/-- A display call stands neither at the first nor at the last position (R180). -/
theorem rollAction_call_range (r : Fin 51) (h : isCallAction (rollAction r) = true) :
    r.val ≠ 0 ∧ r.val < 50 := by
  revert r; decide

end Sys2Proof.Machine
end

