-- ==== Sys2Proof/Laws/Step.lean ====
section
/-! SUPPORT. Everything a step of the machine can do, said once: the steps of the agents and of the
environment (R171, R227), and what an executed operation adds to them (R101). -/

namespace Sys2Proof.Machine

/-- What a step of an agent or an event of the environment does to the state (R171, R227). -/
inductive AgentStep (s : State) : State → Prop
  | same : AgentStep s s
  | enterShutdown : s.termPending = true → s.cst = .uninit ∨ s.cst = .idle →
      AgentStep s (enterShutdown s)
  | endInit : s.cst = .uninit → AgentStep s (endInitDelay s)
  | setup : s.cst = .setup → AgentStep s (setupStep s)
  | tick : s.cst = .idle ∨ s.cst = .rolling → AgentStep s (await .lifecycle s.cfg.tick s)
  | shutdown : s.cst = .shuttingDown → AgentStep s (shutdownStep s)
  | roll : s.cst = .rolling → AgentStep s (rollStep s)
  | press : s.armed = true → s.busy = false → AgentStep s (enterRoll s)
  | term : AgentStep s { s with termPending := true }

/-- `SHUTDOWN` (R179). -/
theorem exec_shutdown_agentStep (s t : State) (h : exec .shutdown s = .next t) : AgentStep s t := by
  simp only [exec, execShutdown] at h
  injection h with h
  split at h
  · subst h; exact .shutdown (by assumption)
  · split at h
    · rename_i hh; simp [shutdownEnabled] at hh; subst h; exact .enterShutdown hh.1 hh.2
    · subst h; exact .same

/-- A move never stops, and does one of these (R220). -/
theorem makeMove_cases (m : Move) (s : State) : ∃ t, makeMove m s = .next t ∧ AgentStep s t := by
  cases m with
  | lifecycle b =>
    have hsd : ∃ t, exec .shutdown s = .next t ∧ AgentStep s t :=
      ⟨_, rfl, exec_shutdown_agentStep s _ rfl⟩
    simp only [makeMove, lifecycleMove]
    split
    · exact ⟨_, rfl, .same⟩
    · split
      · exact hsd
      · cases hc : s.cst <;> simp only
        · exact ⟨_, rfl, .endInit hc⟩
        · exact ⟨_, rfl, by simp [hc]; exact .setup hc⟩
        · exact ⟨_, rfl, by simp [hc, tickEnabled]; exact .tick (.inl hc)⟩
        · exact ⟨_, rfl, by simp [hc, tickEnabled]; exact .tick (.inr hc)⟩
        · exact hsd
        · exact ⟨_, rfl, .same⟩
  | roll =>
    refine ⟨_, rfl, ?_⟩
    split
    · exact .roll (by assumption)
    · exact .same
  | press =>
    refine ⟨_, rfl, ?_⟩
    split
    · rename_i h; simp [pressAccepted] at h; exact .press h.1 h.2
    · exact .same
  | release => exact ⟨_, rfl, .same⟩
  | term => exact ⟨_, rfl, .term⟩

/-- With nothing scripted a step never stops, and is a move (log entry 3). -/
theorem step_unscripted (s : State) (h : s.script = []) :
    ∃ t, step s = .next t ∧ AgentStep { s with free := s.free + 1 } t := by
  simp only [step, advance, h]
  exact makeMove_cases _ _

/-- No agent writes the script (log entry 1). -/
theorem agentStep_script (s t : State) (h : AgentStep s t) : t.script = s.script := by
  have hcall : ∀ c start done, (∀ u : State, (start u).script = u.script) →
      (∀ u : State, (done u).script = u.script) → (callStep c start done s).script = s.script :=
    fun c start done h2 h3 => callStep_field (·.script) c start done s (by simp) h2 h3
  cases h with
  | setup _ =>
    unfold setupStep
    split
    · exact hcall _ _ _ (by simp) (by simp)
    · rfl
    · rfl
  | shutdown _ =>
    unfold shutdownStep
    split
    · rfl
    · exact hcall _ _ _ (by simp) (by simp)
    · rfl
  | roll _ =>
    unfold rollStep
    split <;> first | rfl | exact hcall _ _ _ (by simp) (by simp)
  | _ => rfl

/-- What an executed operation does where it goes on: a step of the block, or one issued from outside. -/
inductive ExecStep (s : State) : State → Prop
  | moved (t) : AgentStep s t → ExecStep s t
  | due : inFlight s = true → ExecStep s (callerStep s)
  | line (l v) : s.sact = false → ExecStep s (lineWrite l v s)
  | cut (l v) : s.sact = true → ExecStep s (cutFrame l v s)
  | wait (d) : ExecStep s (await .harness d s)
  | frame (p) : inFlight s = false → ExecStep s (sendFrame .harness p s)
  | reset : inFlight s = false → ExecStep s (linesOff (sendFrame .harness Config.blank (linesOff s)))
  | construct (c) : s.built = false → ExecStep s (construct c s)

/-- Where a micro-step is due, a display operation is in flight (R150). -/
theorem inFlight_of_due {m : MicroOp} {s : State} (h : dueMicroOp s = some m) :
    inFlight s = true := by
  unfold inFlight dueMicroOp at *
  cases hf : s.flight <;> simp_all

/-- A line write as an operation (R121 to R126). -/
theorem lineOperation_cases (l : Line) (v : Bool) (s t : State)
    (h : lineOperation l v s = .next t) : ExecStep s t := by
  unfold lineOperation at h
  split at h
  · rename_i hd
    injection h with h; subst h; exact .due (inFlight_of_due hd)
  · rename_i hd
    split at h
    · rename_i hc
      injection h with h; subst h; exact .cut l v (by simp [cutsFrame] at hc; exact hc.1)
    · rename_i hc
      injection h with h; subst h; exact .line l v (by simpa [cutsFrame, hd] using hc)

/-- A display operation called from outside (R129). -/
theorem callDisplay_cases (f : State → State) (s t : State)
    (hf : inFlight s = false → ExecStep s (f s)) (h : callDisplay f s = .next t) : ExecStep s t := by
  unfold callDisplay at h
  split at h
  · injection h with h; subst h; exact .moved _ .same
  · injection h with h; subst h; exact hf (by simp_all)

/-- A move is one of the things an operation can do. -/
theorem makeMove_execStep (m : Move) (s t) (h : makeMove m s = .next t) : ExecStep s t := by
  obtain ⟨t', e, hm⟩ := makeMove_cases m s
  rw [e] at h; injection h with h; subst h; exact .moved _ hm

/-- Every operation that goes on does one of these. -/
theorem exec_cases (i : Instr) (s t : State) (h : exec i s = .next t) : ExecStep s t := by
  cases i with
  | dataLo => exact lineOperation_cases _ _ _ _ h
  | dataHi => exact lineOperation_cases _ _ _ _ h
  | clkLo => exact lineOperation_cases _ _ _ _ h
  | clkHi => exact lineOperation_cases _ _ _ _ h
  | latLo => exact lineOperation_cases _ _ _ _ h
  | latHi => exact lineOperation_cases _ _ _ _ h
  | wait d =>
    simp only [exec, execWait] at h
    split at h
    · cases h
    · split at h
      · rename_i hh
        injection h with h; subst h
        exact .due (inFlight_of_due hh.1)
      · injection h with h; subst h; exact .wait d
  | shiftout p => exact callDisplay_cases _ _ _ (fun hf => .frame _ hf) h
  | clear => exact callDisplay_cases _ _ _ (fun hf => .frame _ hf) h
  | showdigit n => exact callDisplay_cases _ _ _ (fun hf => .frame _ hf) h
  | reset =>
    exact callDisplay_cases (fun u => linesOff (sendFrame .harness Config.blank (linesOff u))) _ _ (fun hf => .reset hf) h
  | poweron c =>
    simp only [exec, execPoweron] at h
    split at h
    · cases h
    · split at h
      · cases h
      · split at h
        · injection h with h; subst h; exact .moved _ .same
        · injection h with h; subst h; exact .construct _ (by simp_all)
  | setup =>
    simp only [exec, execSetup] at h; injection h with h; subst h
    split
    · exact .moved _ (.setup (by assumption))
    · exact .moved _ .same
  | tick =>
    simp only [exec, execTick] at h; injection h with h; subst h
    split
    · rename_i h; simp [tickEnabled] at h; exact .moved _ (.tick h)
    · exact .moved _ .same
  | press => exact makeMove_execStep .press s t h
  | release => exact makeMove_execStep .release s t h
  | term => exact makeMove_execStep .term s t h
  | roll => exact makeMove_execStep .roll s t h
  | shutdown => exact .moved _ (exec_shutdown_agentStep _ _ h)

/-- The step of the calling agent (R150, R171). -/
theorem callerStep_agentStep (s : State) : AgentStep s (callerStep s) := by
  unfold callerStep
  cases hc : s.cst <;> simp only
  · exact .same
  · exact .setup hc
  · exact .same
  · exact .roll hc
  · exact .shutdown hc
  · exact .same

/-- An operation of an agent, or an event, never stops, and does one of these (R220). -/
theorem exec_own_cases (i : Instr) (s : State) (h : Safety.isOwn i = true) :
    ∃ t, exec i s = .next t ∧ AgentStep s t := by
  cases i <;> simp [Safety.isOwn] at h
  · refine ⟨_, rfl, ?_⟩
    split
    · exact .setup (by assumption)
    · exact .same
  · refine ⟨_, rfl, ?_⟩
    split
    · rename_i h; simp [tickEnabled] at h; exact .tick h
    · exact .same
  · exact makeMove_cases .press s
  · exact makeMove_cases .release s
  · exact makeMove_cases .term s
  · exact makeMove_cases .roll s
  · exact ⟨_, rfl, exec_shutdown_agentStep s _ rfl⟩

/-- Everything a step that goes on can do: let what a held operation waits for go on, execute the
operation at the head of the script, or make the move the environment chose. -/
theorem step_cases (s t : State) (h : step s = .next t) :
    (∃ w rest i, s.script = w :: rest ∧ decode w = .ok i ∧
      ((held i s = true ∧ AgentStep s t) ∨
        ∃ u, held i s = false ∧ exec i { s with script := rest } = .next u ∧
          ExecStep { s with script := rest } u ∧ t = keepUnfinished w i u)) ∨
    (s.script = [] ∧ AgentStep { s with free := s.free + 1 } t) := by
  simp only [step, advance] at h
  split at h
  · rename_i w rest hw
    split at h
    · rename_i i hd
      split at h
      · rename_i u hu
        injection h with h
        subst h
        refine .inl ⟨w, rest, i, hw, hd, .inl ⟨by simp [held, hu], ?_⟩⟩
        unfold waitingStep at hu
        split at hu
        · injection hu with hu; subst hu; exact callerStep_agentStep s
        · split at hu
          · split at hu
            · rename_i hh
              simp at hh
              injection hu with hu; subst hu; exact .endInit hh.2
            · cases hu
          · cases hu
      · rename_i hn
        split at h
        · rename_i u hu
          injection h with h
          exact .inl ⟨w, rest, i, hw, hd, .inr ⟨u, by simp [held, hn], hu, exec_cases _ _ _ hu, h.symm⟩⟩
        · cases h
        · cases h
    · cases h
  · rename_i hs
    obtain ⟨u, e, hm⟩ := makeMove_cases (Config.schedule s.free) { s with free := s.free + 1 }
    rw [e] at h
    injection h with h
    subst h
    exact .inr ⟨hs, hm⟩

end Sys2Proof.Machine
end

