-- ==== Sys2Proof/Tests/Slice0.lean ====
section
/-! SUPPORT. Tests of single steps against spec/95_test_vectors.md (V-…, S…, T1, T2), the decoding of a
word written out for each row of R99's table, terms that WellFormed refuses, and a witness for the
hypotheses of each statement. -/

namespace Sys2Proof.Tests

open Sys2Proof.Machine Sys2Proof.Safety

/-! ## Helpers -/

/-- A small concrete state: the lines low, the register blank, the controller as given. -/
def stateOf (cst : Cst) (busy armed term : Bool) (rpc : Fin 51) (lpc : Fin 3) : State where
  data := false
  clock := false
  latch := false
  pat := 0xFF
  sact := false
  spc := 46
  sr := 0xFF
  q := 0xFF
  cst := cst
  busy := busy
  armed := armed
  termPending := term
  finalDigit := 4
  rtmp := 7
  rpc := rpc
  lpc := lpc
  cfg := Config.defaults
  faulted := false
  garbled := false
  flight := .idle
  built := true
  script := []
  free := 1
  waited := ⟨0, 0, 0⟩

def uninitState : State := stateOf .uninit true false false 0 0
def idleState : State := stateOf .idle false true false 50 2
def haltedState : State := stateOf .halted false false true 50 2
def setupState (lpc : Fin 3) : State := stateOf .setup true (lpc == 2) false 0 lpc
def shutdownState (lpc : Fin 3) : State := stateOf .shuttingDown false false true 50 lpc
def rollState (rpc : Fin 51) : State := stateOf .rolling true true false rpc 2

/-- The roll in the `CLEAR` of blink cycle 0, its frame entered, at micro-step `k`. -/
def frameState (k : Fin 47) : State :=
  { rollState 31 with sact := true, spc := k, flight := .frame false }

/-- The idle state after a frame has been cut. -/
def garbledState : State := { idleState with faulted := true, garbled := true }

/-- `SETUP` in the opening `LINES_OFF` of its `RESET`, the write of the clock line due. -/
def openingState : State := { setupState 0 with flight := .linesOff .clock false }

/-- The lines and the connected register, as the vectors write them. -/
def linesOf (s : State) : Bool × Bool × Bool × Byte × Byte := (s.data, s.clock, s.latch, s.sr, s.q)

/-- The state of the controller, as the vectors write it. -/
def controlOf (s : State) : Cst × Bool × Bool × Bool := (s.cst, s.busy, s.armed, s.termPending)

/-- What is seen of a next state. -/
def seen {α : Type} (f : State → α) (o : Host.Outcome State Fault Refusal) : Option α :=
  match o with
  | .next t => some (f t)
  | .fault _ => none
  | .refused _ => none

/-- The idle state with other lines and register. -/
def lineState (d c l : Bool) (sr q : Byte) : State :=
  { idleState with data := d, clock := c, latch := l, sr := sr, q := q }

/-! ## Decoding: every row of R99's table -/

theorem test_decode_dataLo : decode ⟨0b00000, .none⟩ = .ok .dataLo := by rfl
theorem test_decode_dataHi : decode ⟨0b00001, .none⟩ = .ok .dataHi := by rfl
theorem test_decode_clkLo : decode ⟨0b00010, .none⟩ = .ok .clkLo := by rfl
theorem test_decode_clkHi : decode ⟨0b00011, .none⟩ = .ok .clkHi := by rfl
theorem test_decode_latLo : decode ⟨0b00100, .none⟩ = .ok .latLo := by rfl
theorem test_decode_latHi : decode ⟨0b00101, .none⟩ = .ok .latHi := by rfl
theorem test_decode_wait : decode ⟨0b00110, .duration 10⟩ = .ok (.wait 10) := by rfl
theorem test_decode_shiftout : decode ⟨0b01000, .pattern 0x5A⟩ = .ok (.shiftout 0x5A) := by rfl
theorem test_decode_clear : decode ⟨0b01001, .none⟩ = .ok .clear := by rfl
theorem test_decode_showdigit : decode ⟨0b01010, .digit (-1)⟩ = .ok (.showdigit (-1)) := by rfl
theorem test_decode_reset : decode ⟨0b01011, .none⟩ = .ok .reset := by rfl
theorem test_decode_poweron :
    decode ⟨0b10000, .configuration { initDelay := some 0 }⟩ =
      .ok (.poweron { initDelay := some 0 }) := by rfl
theorem test_decode_setup : decode ⟨0b10001, .none⟩ = .ok .setup := by rfl
theorem test_decode_tick : decode ⟨0b10010, .none⟩ = .ok .tick := by rfl
theorem test_decode_press : decode ⟨0b10011, .none⟩ = .ok .press := by rfl
theorem test_decode_release : decode ⟨0b10100, .none⟩ = .ok .release := by rfl
theorem test_decode_term : decode ⟨0b10101, .none⟩ = .ok .term := by rfl
theorem test_decode_roll : decode ⟨0b10110, .none⟩ = .ok .roll := by rfl
theorem test_decode_shutdown : decode ⟨0b10111, .none⟩ = .ok .shutdown := by rfl

/-- R100: 0b00111 is unassigned. -/
theorem test_decode_reserved : decode ⟨0b00111, .none⟩ = .error .reservedCode := by rfl
/-- A byte with a bit above `op[4:0]` is no code. -/
theorem test_decode_wide : decode ⟨0b00100000, .none⟩ = .error .notFiveBits := by rfl
/-- U6: an operand of the wrong type. -/
theorem test_decode_operand : decode ⟨0b01010, .pattern 5⟩ = .error .operandMismatch := by rfl

/-! ## WellFormed: an ill-formed term for each check -/

theorem test_illFormed_wait : (Instr.wait (-1)).wf = false := by decide
theorem test_illFormed_bitDelay : (Instr.poweron { bitDelay := some (-1) }).wf = false := by decide
theorem test_illFormed_initDelay : (Instr.poweron { initDelay := some (-1) }).wf = false := by decide
theorem test_illFormed_tick : (Instr.poweron { tick := some (-1) }).wf = false := by decide
theorem test_illFormed_debounce : (Instr.poweron { debounce := some (-1) }).wf = false := by decide
/-- The clock line on the default data pin, and the button on the default latch pin. -/
theorem test_illFormed_pins : (Instr.poweron { pinClock := some 17 }).wf = false ∧
    (Instr.poweron { pinButton := some 27 }).wf = false := by decide
theorem test_wellFormed_defaults : (Instr.poweron {}).wf = true ∧ (Instr.wait 0).wf = true := by decide

/-! ## Line micro-operations (95_test_vectors.md, 2.1) -/

/-- V-L1. -/
theorem test_dataHi : seen linesOf (exec .dataHi (lineState false false false 0x7F 0)) =
    some (true, false, false, 0x7F, 0) := by decide
/-- V-L3. -/
theorem test_dataLo : seen linesOf (exec .dataLo (lineState true false false 0x7F 0)) =
    some (false, false, false, 0x7F, 0) := by decide
/-- V-L4. -/
theorem test_clkHi_shifts : seen linesOf (exec .clkHi (lineState true false false 0x7F 0)) =
    some (true, true, false, 0xBF, 0) := by decide
/-- V-L6. -/
theorem test_clkHi_no_edge : seen linesOf (exec .clkHi (lineState true true false 0xBF 0)) =
    some (true, true, false, 0xBF, 0) := by decide
/-- V-L12. -/
theorem test_clkLo : seen linesOf (exec .clkLo (lineState true true true 0xA5 0x3C)) =
    some (true, false, true, 0xA5, 0x3C) := by decide
/-- V-L9. -/
theorem test_latHi_copies : seen linesOf (exec .latHi (lineState true false false 0xA5 0xFF)) =
    some (true, false, true, 0xA5, 0xA5) := by decide
/-- V-L10. -/
theorem test_latHi_no_edge : seen linesOf (exec .latHi (lineState true false true 0xA5 0x3C)) =
    some (true, false, true, 0xA5, 0x3C) := by decide
/-- V-L11. -/
theorem test_latLo : seen linesOf (exec .latLo (lineState true false true 0xA5 0xA5)) =
    some (true, false, false, 0xA5, 0xA5) := by decide
/-- V-L13. -/
theorem test_wait : seen linesOf (exec (.wait 10) (lineState true true false 0x12 0x34)) =
    some (true, true, false, 0x12, 0x34) := by decide

/-- R225, U1: a second writer inside a frame sets its line and marks the run faulted; the frame goes
on. -/
theorem test_dataHi_cuts_frame :
    seen (fun t => (t.data, t.faulted, t.sact, t.spc.val)) (exec .dataHi (frameState 4)) =
      some (true, true, true, 4) := by decide
/-- R61: in the `LINES_OFF` of a `RESET` no frame runs, so a line write is a line write. -/
theorem test_clkHi_between_frames :
    seen (fun t => (linesOf t, t.faulted))
      (exec .clkHi { openingState with data := true, sr := 0x7F }) =
        some ((true, true, false, 0xBF, 0xFF), false) := by decide

/-! ## Display operations (2.2, 2.3) -/

set_option maxRecDepth 20000 in
/-- V-F6. -/
theorem test_shiftout : seen linesOf (exec (.shiftout 0x5A) (lineState true false false 0xA5 0xA5)) =
    some (false, false, false, 0x5A, 0x5A) := by rfl

set_option maxRecDepth 20000 in
/-- V-F9: entered with the clock high, bit 0 is not shifted. -/
theorem test_shiftout_clock_high :
    seen linesOf (exec (.shiftout 0xA5) (lineState false true false 0x7F 0)) =
      some (true, false, false, 0xA4, 0xA4) := by rfl

set_option maxRecDepth 20000 in
/-- V-D8. -/
theorem test_clear : seen linesOf (exec .clear idleState) =
    some (true, false, false, 0xFF, 0xFF) := by rfl

set_option maxRecDepth 20000 in
/-- V-D6: the comparison is not on the low 8 bits of the operand. -/
theorem test_showdigit_259 : seen linesOf (exec (.showdigit 259) idleState) =
    some (true, false, false, 0xFF, 0xFF) := by rfl

/-- V-D2, V-D5: the patterns of 9 and of -1. -/
theorem test_patternOf : patternOf 9 = Config.glyph 9 ∧ patternOf (-1) = 0xFF := ⟨rfl, rfl⟩

set_option maxRecDepth 20000 in
/-- V-R1, T2. -/
theorem test_reset : seen linesOf (exec .reset (lineState true true false 0x3C 0)) =
    some (false, false, false, 0xFF, 0xFF) := by rfl

set_option maxRecDepth 20000 in
/-- R225: a frame entered with the clock low restores what a cut frame left arbitrary. -/
theorem test_shiftout_restores :
    seen (fun t => (linesOf t, t.faulted, t.garbled)) (exec (.shiftout 0x5A) garbledState) =
      some ((false, false, false, 0x5A, 0x5A), true, false) := by rfl

/-- T1: the eight data levels of 0xA5, bit 0 first, and the latch writes. -/
theorem test_frame_program :
    (List.range 8).map (fun i => frameOp 0xA5 (Fin.ofNat 47 (2 + 5 * i))) =
      [.write .data true, .write .data false, .write .data true, .write .data false,
       .write .data false, .write .data true, .write .data false, .write .data true] ∧
    frameOp 0xA5 43 = .write .latch true ∧ frameOp 0xA5 45 = .write .latch false := by decide

/-! ## The controller (2.4, 2.5) -/

/-- P3: `POWERON` with an init delay of 0. -/
theorem test_poweron : seen (fun t => (controlOf t, t.cfg.initDelay, t.cfg.tick))
    (exec (.poweron { initDelay := some 0 }) { haltedState with built := false }) =
      some ((.uninit, true, false, false), 0, 25) := by decide
/-- V-C19. -/
theorem test_setup_ends : seen controlOf (exec .setup (setupState 2)) =
    some (.idle, false, true, false) := by decide
/-- T2, step a. -/
theorem test_setup_resets :
    seen linesOf (exec .setup { setupState 0 with data := true, clock := true, sr := 0x3C }) =
      some (false, true, false, 0x3C, 0xFF) := by decide
/-- V-C17. -/
theorem test_tick : seen controlOf (exec .tick (rollState 17)) = some (.rolling, true, true, false) := by
  decide
/-- V-C8: accepted with a termination pending. -/
theorem test_press : seen (fun t => (controlOf t, t.rpc))
    (exec .press { idleState with termPending := true }) =
      some ((.rolling, true, true, true), 1) := by decide
/-- V-C5: armed but busy, dropped. -/
theorem test_press_dropped : seen controlOf (exec .press (setupState 2)) =
    some (.setup, true, true, false) := by decide
/-- V-C9. -/
theorem test_release : exec .release (rollState 17) = .next (rollState 17) := by rfl
/-- V-C11. -/
theorem test_term : seen (fun t => (controlOf t, t.rpc)) (exec .term (rollState 30)) =
    some ((.rolling, true, true, true), 30) := by decide
/-- V-C18. -/
theorem test_roll_ends : seen controlOf (exec .roll (rollState 50)) =
    some (.idle, false, true, false) := by decide
/-- 2.5, positions 28 and 29. -/
theorem test_roll_program : rollAction 28 = .sleep (spinDelay 8) ∧ rollAction 29 = .showFinal := by
  decide
/-- V-C13. -/
theorem test_shutdown_begins :
    seen (fun t => (controlOf t, t.lpc)) (exec .shutdown { uninitState with termPending := true }) =
      some ((.shuttingDown, false, false, true), 1) := by decide
/-- V-C20. -/
theorem test_shutdown_ends : seen controlOf (exec .shutdown (shutdownState 2)) =
    some (.halted, false, false, true) := by decide

/-! ## Witnesses: for each statement with hypotheses, states and operands that meet them -/

theorem idle_control (r : List OpWord) : ControlInv { idleState with script := r } := by
  constructor <;> simp [idleState, stateOf]
theorem halted_control (r : List OpWord) : ControlInv { haltedState with script := r } := by
  constructor <;> simp [haltedState, stateOf]
theorem roll_control (k : Fin 51) (h : k.val ≠ 0) (p : Byte) (r : List OpWord) :
    ControlInv { rollState k with sr := p, q := p, script := r } := by
  constructor <;> simp_all [rollState, stateOf]
theorem shutdown_control (r : List OpWord) : ControlInv { shutdownState 2 with script := r } := by
  constructor <;> simp [shutdownState, stateOf]
theorem frame_control (k : Fin 47) (r : List OpWord) :
    ControlInv { frameState k with script := r } := by
  have h : isCallAction (rollAction 31) = true := by decide
  constructor <;> simp [frameState, rollState, stateOf, h]
theorem halted_lines (r : List OpWord) : LineInv { haltedState with script := r } := by
  constructor <;> simp [haltedState, stateOf, displayKnown, justReset, safeOff, Config.blank]
theorem roll_lines (r : List OpWord) :
    LineInv { rollState 50 with sr := patternOf 4, q := patternOf 4, script := r } := by
  constructor <;> simp [rollState, stateOf, displayKnown, justReset]
theorem frame_lines (r : List OpWord) : LineInv { frameState 0 with script := r } := by
  have h : (frameState 0).pat = calledPattern { frameState 0 with script := r } := by rfl
  constructor <;> simp [displayKnown, justReset, frameState, rollState, stateOf]
  · constructor <;> simp [clocksDone]
  · exact h

/-- A script of one of the block's own operations. -/
theorem own_single (s : State) (i : Instr) (h : isOwn i = true) :
    ownScript { s with script := [encode i] } := by
  intro w hw
  simp only [List.mem_singleton] at hw
  subst hw
  exact ⟨i, by cases i <;> rfl, h⟩

theorem test_witness_UnassignedCodesRefused :
    [0b00111, 0b01100, 0b01111, 0b11000, 0b11111].all (fun c : Byte =>
      decide (c.toNat = 0b00111 ∨ (0b01100 ≤ c.toNat ∧ c.toNat ≤ 0b01111) ∨
        (0b11000 ≤ c.toNat ∧ c.toNat ≤ 0b11111))) = true ∧
    ({ idleState with script := [⟨0b00111, .none⟩] } : State).script = ⟨0b00111, .none⟩ :: [] :=
  ⟨by decide, rfl⟩
theorem test_witness_StepRunsScriptOrMove :
    decode (encode .roll) = .ok .roll ∧ held .roll (rollState 50) = false ∧
    decode (encode .clear) = .ok .clear ∧ held .clear idleState = false ∧
    exec .clear { idleState with script := [] } = .next (sendFrame .harness 0xFF idleState) ∧
    held .dataHi (frameState 4) = false ∧
    exec .dataHi (frameState 4) = .next (cutFrame .data true (frameState 4)) ∧
    held (.wait (-1)) idleState = false ∧
    exec (.wait (-1)) idleState = .refused .negativeDuration ∧ idleState.script = [] :=
  ⟨rfl, rfl, rfl, rfl, rfl, rfl, rfl, rfl, rfl, rfl⟩
theorem test_witness_StepEndsInitDelay :
    ({ uninitState with script := [encode .setup] } : State).script = encode .setup :: [] ∧
    decode (encode .setup) = .ok .setup ∧ uninitState.built = true ∧ uninitState.cst = .uninit :=
  ⟨rfl, rfl, rfl, rfl⟩
theorem test_witness_StepHoldsDisplayCall :
    ({ frameState 4 with script := [encode .clear] } : State).script = encode .clear :: [] ∧
    decode (encode .clear) = .ok .clear ∧ isDisplayCall .clear = true ∧
    inFlight (frameState 4) = true := ⟨rfl, rfl, rfl, rfl⟩
theorem test_witness_HoldIsLifted :
    ControlInv { frameState 4 with script := [encode .reset] } ∧
    decode (encode .reset) = .ok .reset ∧ isDisplayCall .reset = true :=
  ⟨frame_control 4 _, rfl, rfl⟩
theorem test_witness_LifecycleAgentMoves :
    uninitState.built = true ∧ uninitState.cst = .uninit ∧ (setupState 0).cst = .setup ∧
    idleState.cst = .idle ∧ (rollState 1).cst = .rolling ∧ (shutdownState 1).cst = .shuttingDown ∧
    haltedState.cst = .halted ∧
    ({ idleState with termPending := true } : State).termPending = true := by decide
/-- With nothing in flight, and in an opening `LINES_OFF` of `RESET` where another write is due. -/
theorem test_witness_LineWritesReact :
    [idleState, openingState].all (fun s => !s.sact && !s.garbled &&
      [Line.data, .clock, .latch].all fun l => dueMicroOp s != some (.write l true)) = true ∧
    dueMicroOp idleState ≠ some (.write .clock false) ∧
    dueMicroOp openingState ≠ some (.write .data false) ∧
    dueMicroOp openingState ≠ some (.write .latch false) := by decide
/-- The due write, a second writer's write inside a frame, and a write after a cut frame. -/
theorem test_witness_LineWritesInFlightOrGarbled :
    dueMicroOp (frameState 4) = some (.write .clock true) ∧
    dueMicroOp (frameState 5) ≠ some (.write .clock true) ∧ (frameState 5).sact = true ∧
    dueMicroOp (frameState 46) ≠ some (.write .clock true) ∧ (frameState 46).sact = true ∧
    dueMicroOp garbledState ≠ some (.write .clock true) ∧ garbledState.garbled = true ∧
    (Instr.clkHi, Line.clock, true) ∈ [(Instr.dataLo, Line.data, false), (.dataHi, .data, true),
      (.clkLo, .clock, false), (.clkHi, .clock, true), (.latLo, .latch, false),
      (.latHi, .latch, true)] := by decide
theorem test_witness_WaitChangesNoRegister :
    (0 : Duration) ≤ 0 ∧ (0 : Duration) ≤ 10 ∧ inFlight idleState = false :=
  ⟨le_refl _, by norm_num, rfl⟩
theorem test_witness_WaitInFlight :
    (0 : Duration) ≤ 10 ∧ dueMicroOp (frameState 0) = some .wait ∧
    (10 : Duration) = (frameState 0).cfg.bitDelay ∧
    ¬ (dueMicroOp (frameState 4) = some .wait ∧ (10 : Duration) = (frameState 4).cfg.bitDelay) ∧
    ¬ (dueMicroOp (frameState 0) = some .wait ∧ (9 : Duration) = (frameState 0).cfg.bitDelay) ∧
    (-1 : Duration) < 0 :=
  ⟨by norm_num, rfl, rfl, by decide, by decide, by norm_num⟩
theorem test_witness_DataLevelOfBit :
    0 < 8 ∧ 7 < 8 ∧ (2 : Fin 47).val = 2 + 5 * 0 ∧ (37 : Fin 47).val = 2 + 5 * 7 := by decide
theorem test_witness_FrameCounts : idleState.clock = false := rfl
theorem test_witness_ShiftoutResult :
    inFlight (lineState true false true 0xA5 0) = false ∧
    (lineState true false true 0xA5 0).clock = false := by decide
theorem test_witness_ShiftoutEnteredClockHigh :
    inFlight (lineState true true false 0xA5 0) = false ∧
    (lineState true true false 0xA5 0).clock = true ∧
    (lineState true true false 0xA5 0).garbled = false ∧
    inFlight { garbledState with clock := true } = false ∧ garbledState.garbled = true := by decide
theorem test_witness_ClearResult :
    inFlight (lineState false false true 0 0) = false ∧
    (lineState false false true 0 0).clock = false := by decide
/-- At 0 and 9, and at -1 and 10. -/
theorem test_witness_ShowDigitResult :
    inFlight idleState = false ∧ idleState.clock = false ∧
    (∀ n p, (n, p) ∈ [((0 : Int), Config.glyph 0), (9, Config.glyph 9), (-1, 0xFF), (10, 0xFF)] →
      (∀ k : Fin 10, n = k.val → p = Config.glyph k) ∧ (n < 0 ∨ 9 < n → p = 0xFF)) := by
  refine ⟨rfl, rfl, ?_⟩
  intro n p h
  simp only [List.mem_cons, Prod.mk.injEq, List.not_mem_nil, or_false] at h
  rcases h with ⟨rfl, rfl⟩ | ⟨rfl, rfl⟩ | ⟨rfl, rfl⟩ | ⟨rfl, rfl⟩
  · exact ⟨fun k hk => congrArg Config.glyph (Fin.ext (by simp; omega)), by omega⟩
  · exact ⟨fun k hk => congrArg Config.glyph (Fin.ext (by simp; omega)), by omega⟩
  · exact ⟨fun k hk => by omega, fun _ => rfl⟩
  · exact ⟨fun k hk => by omega, fun _ => rfl⟩
theorem test_witness_ResetResult : inFlight (lineState true true true 0 0xA5) = false ∧
    inFlight garbledState = false ∧ garbledState.garbled = true := by decide
theorem test_witness_DisplayCallsIdempotent :
    isDisplayCall .clear = true ∧ inFlight idleState = false ∧ idleState.clock = false ∧
    exec .clear idleState = .next (sendFrame .harness 0xFF idleState) ∧
    exec .reset { idleState with clock := true } = .next
      (linesOff (sendFrame .harness 0xFF (linesOff { idleState with clock := true }))) :=
  ⟨rfl, rfl, rfl, rfl, rfl⟩
theorem test_witness_FrameCourse :
    idleState.clock = false ∧ 0 ≤ 47 ∧ 43 ≤ 47 ∧ 44 ≤ 47 ∧ 47 ≤ 47 := by decide
theorem test_witness_RollCallSendsFrame :
    [3, 27, 29, 31, 49].all (fun r : Fin 51 =>
      (rollState r).cst == .rolling && isCallAction (rollAction (rollState r).rpc) &&
        !inFlight (rollState r) && !(rollState r).clock) = true := by decide
theorem test_witness_SetupRunsToIdle :
    (setupState 0).cst = .setup ∧ (setupState 0).lpc = 0 ∧ inFlight (setupState 0) = false := by decide
theorem test_witness_ShutdownRunsToHalted :
    idleState.cst = .idle ∧ uninitState.cst = .uninit ∧
    ({ idleState with termPending := true } : State).termPending = true ∧
    inFlight idleState = false ∧ inFlight uninitState = false := by decide
theorem test_witness_RollRunsToFinalDigit :
    (rollState 1).cst = .rolling ∧ (rollState 1).rpc = 1 ∧ inFlight (rollState 1) = false ∧
    (rollState 1).clock = false := by decide
theorem test_witness_PowerOnConstructs :
    ({ haltedState with built := false } : State).built = false ∧
    (Config.resolve { bitDelay := some 0 }).legal = true := by decide
theorem test_witness_PowerOnRefusesIllegal :
    (Config.resolve { tick := some (-1) }).legal = false ∧
    (Config.resolve { pinData := some 5 }).legal = false ∧
    (Config.resolve {}).legal = true ∧ idleState.built = true := by decide
theorem test_witness_SetupActions :
    (setupState 0).cst = .setup ∧ (setupState 0).lpc = 0 ∧ (setupState 0).flight = .idle ∧
    (setupState 1).lpc = 1 ∧ (setupState 2).lpc = 2 := by decide
theorem test_witness_ShutdownActions :
    ({ idleState with termPending := true } : State).termPending = true ∧ idleState.cst = .idle ∧
    uninitState.cst = .uninit ∧ (shutdownState 1).cst = .shuttingDown ∧ (shutdownState 1).lpc = 1 ∧
    (shutdownState 1).flight = .idle ∧ (shutdownState 2).lpc = 2 := by decide
theorem test_witness_TickOnlyWaits : idleState.cst = .idle ∧ (rollState 17).cst = .rolling := by decide
theorem test_witness_PressGuard :
    idleState.armed = true ∧ idleState.busy = false ∧ uninitState.armed = false ∧
    (rollState 17).busy = true := by decide
theorem test_witness_RollActions :
    (rollState 1).cst = .rolling ∧ (rollState 1).rpc = 1 ∧
    (rollState 2).rpc.val = 2 + 3 * 0 ∧ (rollState 26).rpc.val = 2 + 3 * 8 ∧
    (rollState 4).rpc.val = 4 + 3 * 0 ∧ (rollState 28).rpc.val = 4 + 3 * 8 ∧
    (rollState 30).rpc.val = 30 + 4 * 0 ∧ (rollState 48).rpc.val = 32 + 4 * 4 ∧
    (rollState 50).rpc = 50 := by decide
theorem test_witness_RollShows :
    (rollState 3).rpc.val = 3 + 3 * 0 ∧ (rollState 27).rpc.val = 3 + 3 * 8 ∧
    (rollState 29).rpc.val = 29 + 4 * 0 ∧ (rollState 45).rpc.val = 29 + 4 * 4 ∧
    (rollState 31).rpc.val = 31 + 4 * 0 ∧ (rollState 47).rpc.val = 31 + 4 * 4 ∧
    (rollState 49).rpc.val = 49 := by decide
theorem test_witness_TermSetsPending :
    haltedState.termPending = true ∧ (rollState 30).cst ≠ .uninit ∧ (rollState 30).cst ≠ .idle ∧
    ({ uninitState with termPending := true } : State).built = true ∧
    ({ uninitState with termPending := true } : State).termPending = true ∧
    uninitState.cst = .uninit ∧ idleState.cst = .idle := by decide
theorem test_witness_EntryOnTermination :
    ControlInv { idleState with termPending := true } ∧
    exec .shutdown { idleState with termPending := true } = .next { idleState with
      termPending := true, cst := .shuttingDown, armed := false, lpc := 1 } ∧
    idleState.cst ≠ .shuttingDown := by
  refine ⟨?_, rfl, by decide⟩
  constructor <;> simp [idleState, stateOf]
theorem test_witness_NotEnabledChangesNothing :
    idleState.cst ≠ .setup ∧ idleState.cst ≠ .rolling ∧ haltedState.cst ≠ .idle ∧
    haltedState.cst ≠ .rolling ∧ idleState.cst ≠ .shuttingDown ∧ idleState.termPending = false ∧
    (rollState 1).cst ≠ .shuttingDown ∧ (rollState 1).cst ≠ .uninit ∧ (rollState 1).cst ≠ .idle := by
  decide
theorem test_witness_PressesAreNotQueued :
    ControlInv (rollState 17) ∧ (rollState 17).cst = .rolling :=
  ⟨roll_control 17 (by decide) 0xFF [], rfl⟩
theorem test_witness_EventsDoNotDisturbFrame :
    ControlInv (frameState 9) ∧ inFlight (frameState 9) = true ∧ (frameState 9).cst ≠ .shuttingDown :=
  ⟨frame_control 9 [], rfl, by decide⟩
theorem test_witness_ControlInvKept :
    ControlInv { rollState 50 with sr := 0xFF, q := 0xFF, script := [encode .roll] } ∧
    step { rollState 50 with sr := 0xFF, q := 0xFF, script := [encode .roll] } =
      .next { rollState 50 with cst := .idle, busy := false } :=
  ⟨roll_control 50 (by decide) 0xFF _, rfl⟩
theorem test_witness_PressAcceptedOnlyInIdle : ControlInv idleState := idle_control []
theorem test_witness_StateTransitions :
    ControlInv { idleState with script := [encode .press] } ∧
    step { idleState with script := [encode .press] } =
      .next { idleState with cst := .rolling, busy := true, rpc := 1 } ∧
    ({ idleState with cst := .rolling, busy := true, rpc := 1 } : State).cst ≠ idleState.cst :=
  ⟨idle_control _, rfl, by decide⟩
theorem test_witness_TeardownIsFinal :
    ControlInv { haltedState with script := [encode .press] } ∧ haltedState.built = true ∧
    step { haltedState with script := [encode .press] } = .next haltedState ∧
    ControlInv { shutdownState 2 with script := [encode .shutdown] } ∧
    (shutdownState 2).built = true ∧ (shutdownState 2).cst = .shuttingDown ∧
    step { shutdownState 2 with script := [encode .shutdown] } =
      .next { shutdownState 2 with cst := .halted } :=
  ⟨halted_control _, rfl, rfl, shutdown_control _, rfl, rfl, rfl⟩
theorem test_witness_ConfigurationAndTerminationStay :
    ({ haltedState with script := [encode (.poweron { tick := some 1 })] } : State).built = true ∧
    step { haltedState with script := [encode (.poweron { tick := some 1 })] } = .next haltedState ∧
    haltedState.termPending = true := ⟨rfl, rfl, rfl⟩
/-- A rising edge of the clock. -/
theorem test_witness_BufferChangesOnlyAtClockEdge :
    singleStep { lineState true false false 0x7F 0 with script := [encode .clkHi] } ∧
    step { lineState true false false 0x7F 0 with script := [encode .clkHi] } =
      .next (lineState true true false 0xBF 0) ∧
    (lineState true true false 0xBF 0).garbled = false := by
  refine ⟨?_, rfl, rfl⟩
  intro w rest i h hd
  cases h
  cases hd
  exact ⟨by decide, fun c => by simp⟩
/-- A rising edge of the latch. -/
theorem test_witness_OutputsChangeOnlyAtLatchEdge :
    singleStep { lineState true false false 0xA5 0 with script := [encode .latHi] } ∧
    step { lineState true false false 0xA5 0 with script := [encode .latHi] } =
      .next (lineState true false true 0xA5 0xA5) ∧
    (lineState true false true 0xA5 0xA5).garbled = false := by
  refine ⟨?_, rfl, rfl⟩
  intro w rest i h hd
  cases h
  cases hd
  exact ⟨by decide, fun c => by simp⟩
theorem test_witness_LinesDrivenByOneAgent :
    ownScript { idleState with script := [encode .press] } ∧ idleState.cst = .idle ∧
    uninitState.cst = .uninit ∧ haltedState.cst = .halted ∧
    step { idleState with script := [encode .press] } =
      .next { idleState with cst := .rolling, busy := true, rpc := 1 } :=
  ⟨own_single idleState .press rfl, rfl, rfl, rfl, rfl⟩
/-- A line that the roll agent, and one that the lifecycle agent, changes; and a write of `BUSY`. -/
theorem test_witness_LinesDrivenByOneAgent_moves :
    (frameState 4).clock = false ∧ seen (·.clock) (makeMove .roll (frameState 4)) = some true ∧
    (setupState 0).cst = .setup ∧
    seen (·.data) (makeMove (.lifecycle false) { setupState 0 with data := true }) = some false ∧
    (rollState 50).busy = true ∧ seen (·.busy) (makeMove .roll (rollState 50)) = some false := by
  decide
theorem test_witness_BlockNeverStops : ownScript { idleState with script := [encode .press] } :=
  own_single idleState .press rfl
theorem test_witness_FaultedOnlyByCutFrame :
    exec .dataHi (frameState 4) = .next (cutFrame .data true (frameState 4)) ∧
    step { frameState 4 with script := [encode .dataHi] } =
      .next (cutFrame .data true (frameState 4)) ∧
    (cutFrame .data true (frameState 4)).faulted = true ∧
    step { idleState with faulted := true, script := [encode .press] } =
      .next { idleState with faulted := true, cst := .rolling, busy := true, rpc := 1 } ∧
    ownScript { idleState with faulted := true, script := [encode .press] } :=
  ⟨rfl, rfl, rfl, rfl, own_single { idleState with faulted := true } .press rfl⟩
theorem test_witness_OutOfRangeDigitClears :
    ((-1 : Int) < 0 ∨ 9 < (-1 : Int)) ∧ ((10 : Int) < 0 ∨ 9 < (10 : Int)) ∧
    conditionOf (.showdigit 9) idleState = none ∧ conditionOf (.showdigit 0) idleState = none := by
  decide
theorem test_witness_LineInvKept :
    ownScript { haltedState with script := [encode .term] } ∧
    ControlInv { haltedState with script := [encode .term] } ∧
    LineInv { haltedState with script := [encode .term] } ∧
    step { haltedState with script := [encode .term] } = .next haltedState :=
  ⟨own_single haltedState .term rfl, halted_control _, halted_lines _, rfl⟩
/-- In a frame, at the entry of its micro-step 0. -/
theorem test_witness_LineInvKept_in_frame :
    ownScript { frameState 0 with script := [encode .press] } ∧
    ControlInv { frameState 0 with script := [encode .press] } ∧
    LineInv { frameState 0 with script := [encode .press] } ∧
    step { frameState 0 with script := [encode .press] } = .next (frameState 0) :=
  ⟨own_single (frameState 0) .press rfl, frame_control 0 _, frame_lines _, rfl⟩
theorem test_witness_HaltedIsSafe :
    ControlInv haltedState ∧ LineInv haltedState ∧ haltedState.cst = .halted :=
  ⟨halted_control [], halted_lines [], rfl⟩
/-- The roll at its last position, with the digit 4 on the display. -/
theorem test_witness_RollEndsShowingFinalDigit :
    ownScript { rollState 50 with
      sr := patternOf 4, q := patternOf 4, script := [encode .roll] } ∧
    ControlInv { rollState 50 with
      sr := patternOf 4, q := patternOf 4, script := [encode .roll] } ∧
    LineInv { rollState 50 with
      sr := patternOf 4, q := patternOf 4, script := [encode .roll] } ∧
    step { rollState 50 with sr := patternOf 4, q := patternOf 4, script := [encode .roll] } =
      .next { rollState 50 with
        sr := patternOf 4, q := patternOf 4, cst := .idle, busy := false } ∧
    (rollState 50).cst = .rolling :=
  ⟨own_single { rollState 50 with sr := patternOf 4, q := patternOf 4 } .roll rfl,
    roll_control 50 (by decide) _ _, roll_lines _, rfl, rfl⟩

end Sys2Proof.Tests
end

namespace Sys2Proof.Safety

open Sys2Proof.Machine

/-! ## The reset state, and where a press is accepted -/

/-- Settles O30, by reading the fields of the reset state. -/
theorem resetStateValues : Obligations.ResetStateValues := by
  unfold Obligations.ResetStateValues
  exact ⟨rfl, rfl, rfl, rfl, rfl, rfl⟩

/-- Settles O44: in `UNINIT` with nothing in flight every clause is about another state of the
controller, but that `BUSY` is 1. -/
theorem controlInvAtReset : Obligations.ControlInvAtReset := by
  unfold Obligations.ControlInvAtReset
  constructor <;> simp [State.reset]

/-- The flags alone tell `IDLE` from the other states (R42 item 3, R177). -/
theorem ControlInv.armed_not_busy_iff {s : State} (h : ControlInv s) :
    (s.armed = true ∧ s.busy = false) ↔ s.cst = .idle := by
  rw [h.armed_iff, ← Bool.not_eq_true, h.busy_iff]
  cases s.cst <;> simp

/-- Settles O46. -/
theorem pressAcceptedOnlyInIdle : Obligations.PressAcceptedOnlyInIdle := by
  unfold Obligations.PressAcceptedOnlyInIdle
  exact fun _ h => h.armed_not_busy_iff

/-! ## What stays for the life of a block -/

/-- A block that exists in `s` exists in `t`, with the same configuration, and a termination pending in
`s` is pending in `t` (R37, R32). -/
def Persists (s t : State) : Prop :=
  t.built = s.built ∧ t.cfg = s.cfg ∧ (s.termPending = true → t.termPending = true)

/-- What `Persists` compares is left alone where all three registers are. -/
theorem Persists.of_eq {s t : State}
    (h : (t.built, t.cfg, t.termPending) = (s.built, s.cfg, s.termPending)) : Persists s t := by
  simp only [Prod.mk.injEq] at h
  obtain ⟨hb, hc, ht⟩ := h
  exact ⟨hb, hc, fun hs => ht.trans hs⟩

theorem Persists.callStep (c : Caller) {start done : State → State} (s : State)
    (hstart : ∀ u, ((start u).built, (start u).cfg, (start u).termPending) =
      (u.built, u.cfg, u.termPending))
    (hdone : ∀ u, ((done u).built, (done u).cfg, (done u).termPending) =
      (u.built, u.cfg, u.termPending)) :
    Persists s (callStep c start done s) :=
  .of_eq (callStep_field (fun u => (u.built, u.cfg, u.termPending)) c start done s (by simp)
    hstart hdone)

/-- No step of an agent and no event writes the configuration or clears a termination (R171, R227). -/
theorem persists_agentStep {s t : State} (h : AgentStep s t) : Persists s t := by
  cases h with
  | setup =>
    unfold setupStep
    split
    · exact .callStep _ _ (by simp) (by simp)
    · exact .of_eq rfl
    · exact .of_eq rfl
  | shutdown =>
    unfold shutdownStep
    split
    · exact .of_eq rfl
    · exact .callStep _ _ (by simp) (by simp)
    · exact .of_eq rfl
  | roll =>
    unfold rollStep
    cases rollAction s.rpc with
    | showSpin => exact .callStep _ _ (by simp) (by simp)
    | showFinal => exact .callStep _ _ (by simp) (by simp)
    | blank => exact .callStep _ _ (by simp) (by simp)
    | _ => exact .of_eq rfl
  | term => exact ⟨rfl, rfl, fun _ => rfl⟩
  | _ => exact .of_eq rfl

/-- `LINES_OFF` changes no register of the controller (R154). -/
theorem linesOff_controlView (s : State) : controlView (linesOff s) = controlView s := by
  simp [linesOff, controlView]

/-- A whole `RESET` changes no register of the controller (R153). -/
theorem resetCall_controlView (c : Caller) (p : Byte) (s : State) :
    controlView (linesOff (sendFrame c p (linesOff s))) = controlView s := by
  rw [linesOff_controlView, sendFrame_controlView, linesOff_controlView]

theorem Persists.of_controlView {s t : State} (h : controlView t = controlView s) :
    Persists s t := by
  simp only [controlView, Prod.mk.injEq] at h
  exact .of_eq (by simp [h])

/-- An operation executed in a block that exists constructs none (R173; log entry 11). -/
theorem persists_execStep {s t : State} (hb : s.built = true) (h : ExecStep s t) :
    Persists s t := by
  cases h with
  | moved _ ha => exact persists_agentStep ha
  | due => exact persists_agentStep (callerStep_agentStep s)
  | line l v => exact .of_eq (by simp)
  | cut l v => exact .of_eq (by simp)
  | wait d => exact .of_eq rfl
  | frame p => exact .of_controlView (sendFrame_controlView _ _ s)
  | reset => exact .of_controlView (resetCall_controlView _ _ s)
  | construct c hn => simp [hb] at hn

/-- Settles O49, over everything a step can do. -/
theorem configurationAndTerminationStay : Obligations.ConfigurationAndTerminationStay := by
  unfold Obligations.ConfigurationAndTerminationStay
  intro s t hb hstep
  have hp : Persists s t := by
    obtain ⟨w, rest, i, -, -, ⟨-, ha⟩ | ⟨u, -, -, he, rfl⟩⟩ | ⟨-, ha⟩ := step_cases s t hstep
    · exact persists_agentStep ha
    · have hu : Persists { s with script := rest } u := persists_execStep hb he
      exact hu
    · exact persists_agentStep (s := { s with free := s.free + 1 }) ha
  obtain ⟨hbuilt, hcfg, hterm⟩ := hp
  exact ⟨hbuilt.trans hb, hcfg, hterm⟩

end Sys2Proof.Safety

namespace Sys2Proof.Safety

open Sys2Proof.Machine

/-! ## The positions at which the controller's programs call a display operation -/

/-- The program of `SETUP` or `SHUTDOWN` stands at its `RESET` (R174, R179). -/
def AtReset (s : State) : Prop :=
  (s.cst = .setup ∧ s.lpc.val = 0) ∨ (s.cst = .shuttingDown ∧ s.lpc.val = 1)

/-- The roll program stands at a display call (R180). -/
def AtShow (s : State) : Prop := s.cst = .rolling ∧ isCallAction (rollAction s.rpc) = true

/-- The last position of the roll program holds its end (R180). -/
theorem not_atShow_of_last {s : State} (hl : s.rpc.val = 50) : ¬ AtShow s := by
  rintro ⟨-, hcall⟩
  have := (rollAction_call_range _ hcall).2
  omega

/-- `SACT` and what is in flight, while a `RESET` runs or has just ended (R153). -/
def ResetFlight (s : State) : Prop :=
  s.flight ≠ .frame false ∧ (s.sact = true → s.flight = .frame true)

/-- `SACT` and what is in flight, while a frame of the roll runs or has just ended (R150). -/
def ShowFlight (s : State) : Prop :=
  (s.flight = .frame false ∧ s.sact = true) ∨ (s.flight = .idle ∧ s.sact = false)

section
variable {s : State} (h : ControlInv s)
include h

theorem ControlInv.sact_of_flight_idle (hf : s.flight = .idle) : s.sact = false := by
  by_contra hsact
  rcases h.sact_frame (by simpa using hsact) with e | e <;> simp [hf] at e

/-- Away from the display calls of the programs nothing is in flight (log entry 9). -/
theorem ControlInv.quiet (hr : ¬ AtReset s) (hs : ¬ AtShow s) :
    s.flight = .idle ∧ s.sact = false := by
  have hf : s.flight = .idle := by
    by_contra hf
    rcases h.flight_called hf with ⟨hc, hp, -⟩ | ⟨hc, hp, -⟩ | ⟨hc, hp, -, -⟩
    · exact hr (.inl ⟨hc, hp⟩)
    · exact hr (.inr ⟨hc, hp⟩)
    · exact hs ⟨hc, hp⟩
  exact ⟨hf, h.sact_of_flight_idle hf⟩

theorem ControlInv.quiet_of_uninit_or_idle (hc : s.cst = .uninit ∨ s.cst = .idle) :
    s.flight = .idle ∧ s.sact = false := by
  rcases hc with hc | hc <;> exact h.quiet (by simp [AtReset, hc]) (by simp [AtShow, hc])

theorem ControlInv.resetFlight (hr : AtReset s) : ResetFlight s := by
  have hcst : s.cst ≠ .rolling := by rcases hr with ⟨hc, -⟩ | ⟨hc, -⟩ <;> simp [hc]
  have hf : s.flight ≠ .frame false := by
    intro hf
    rcases h.flight_called (by simp [hf]) with ⟨-, -, hn⟩ | ⟨-, -, hn⟩ | ⟨hc, -⟩
    · exact hn hf
    · exact hn hf
    · exact hcst hc
  exact ⟨hf, fun hs => (h.sact_frame hs).resolve_left hf⟩

theorem ControlInv.showFlight (hs : AtShow s) : ShowFlight s := by
  by_cases hf : s.flight = .idle
  · exact .inr ⟨hf, h.sact_of_flight_idle hf⟩
  · rcases h.flight_called hf with ⟨hc, -⟩ | ⟨hc, -⟩ | ⟨-, -, hframe, hsact⟩
    · simp [hs.1] at hc
    · simp [hs.1] at hc
    · exact .inl ⟨hframe, hsact⟩

end

/-! ## What one step of an agent can do, by the position of its program -/

/-- A step of an agent, or an event, where the flags and positions are in order: the program's action
that stands at the position reached (R171, R174, R179, R180, R227). -/
inductive ActionStep (s : State) : State → Prop
  | same : ActionStep s s
  | term : ActionStep s { s with termPending := true }
  | tick : s.cst = .idle ∨ s.cst = .rolling → ActionStep s (await .lifecycle s.cfg.tick s)
  | endInit : s.cst = .uninit → ActionStep s (endInitDelay s)
  | enterShutdown : s.termPending = true → s.cst = .uninit ∨ s.cst = .idle →
      ActionStep s (enterShutdown s)
  | enterRoll : s.cst = .idle → ActionStep s (enterRoll s)
  | resetCall : AtReset s → ActionStep s (callStep .lifecycle startReset advanceLpc s)
  | arm : s.cst = .setup → s.lpc.val = 1 → ActionStep s (advanceLpc { s with armed := true })
  | setupEnd : s.cst = .setup → s.lpc.val = 2 → ActionStep s (returnToIdle s)
  | halt : s.cst = .shuttingDown → s.lpc.val = 2 → ActionStep s { s with cst := .halted }
  | showCall : AtShow s →
      ActionStep s (callStep .roll (startFrame (calledPattern s)) advanceRpc s)
  /-- A draw or a sleep of the roll program. -/
  | rollOther (f r : Fin 10) (n : Nat) (w : Waited) : s.cst = .rolling → ¬ AtShow s →
      s.rpc.val < 49 →
      ActionStep s (advanceRpc { s with finalDigit := f, rtmp := r, free := n, waited := w })
  | rollEnd : s.cst = .rolling → s.rpc.val = 50 → ActionStep s (returnToIdle s)

/-- Every action but the display calls and the end stands before the last display call (R180). -/
theorem rollAction_rpc_lt (r : Fin 51) (hc : isCallAction (rollAction r) = false)
    (hf : rollAction r ≠ .finish) : r.val < 49 := by
  revert r; decide

theorem lpc_cases (s : State) : s.lpc.val = 0 ∨ s.lpc.val = 1 ∨ s.lpc.val = 2 := by omega

theorem actionStep_setupStep {s : State} (hc : s.cst = .setup) : ActionStep s (setupStep s) := by
  obtain hl | hl | hl := lpc_cases s <;> simp only [setupStep, hl]
  · exact .resetCall (.inl ⟨hc, hl⟩)
  · exact .arm hc hl
  · exact .setupEnd hc hl

theorem actionStep_shutdownStep {s : State} (h : ControlInv s) (hc : s.cst = .shuttingDown) :
    ActionStep s (shutdownStep s) := by
  obtain hl | hl | hl := lpc_cases s <;> simp only [shutdownStep, hl]
  · exact absurd hl (h.lpc_pos hc)
  · exact .resetCall (.inr ⟨hc, hl⟩)
  · exact .halt hc hl

theorem actionStep_rollStep {s : State} (h : ControlInv s) (hc : s.cst = .rolling) :
    ActionStep s (rollStep s) := by
  have hshow (hcall : isCallAction (rollAction s.rpc) = true) :
      ActionStep s (callStep .roll (startFrame (calledPattern s)) advanceRpc s) :=
    .showCall ⟨hc, hcall⟩
  have hother (f r n w) (hcall : isCallAction (rollAction s.rpc) = false)
      (hfin : rollAction s.rpc ≠ .finish) :
      ActionStep s (advanceRpc { s with finalDigit := f, rtmp := r, free := n, waited := w }) :=
    .rollOther f r n w hc (by simp [AtShow, hcall]) (rollAction_rpc_lt _ hcall hfin)
  unfold rollStep
  cases ha : rollAction s.rpc with
  | pressed => exact absurd ((rollAction_pressed_iff _).mp ha) (h.rpc_pos hc)
  | finish => exact .rollEnd hc ((rollAction_finish_iff _).mp ha)
  | showSpin | showFinal | blank => simpa [calledPattern, ha] using hshow (by simp [ha, isCallAction])
  | drawFinal | drawSpin | sleep =>
    exact hother _ _ _ _ (by simp [ha, isCallAction]) (by simp [ha])

theorem actionStep_of_agentStep {s t : State} (h : ControlInv s) (ha : AgentStep s t) :
    ActionStep s t := by
  cases ha with
  | same => exact .same
  | enterShutdown hp hc => exact .enterShutdown hp hc
  | endInit hc => exact .endInit hc
  | setup hc => exact actionStep_setupStep hc
  | tick hc => exact .tick hc
  | shutdown hc => exact actionStep_shutdownStep h hc
  | roll hc => exact actionStep_rollStep h hc
  | press ha hb => exact .enterRoll (h.armed_not_busy_iff.mp ⟨ha, hb⟩)
  | term => exact .term

/-! ## One step of a display call -/

/-- What the next micro-step of a call finds: the call's first state, or the one in flight (R150). -/
def duringCall (start : State → State) (s : State) : State :=
  if s.flight = .idle then start s else s

/-- A step of a call is its next micro-step, and with the last one the action is done (R150). -/
theorem callStep_cases (c : Caller) (start done : State → State) (s : State) :
    let t := displayStep c (duringCall start s)
    (t.flight ≠ .idle ∧ callStep c start done s = t) ∨
      (t.flight = .idle ∧ callStep c start done s = done t) := by
  simp only [callStep, duringCall]
  split <;> split <;> simp_all

theorem displayStep_idle (c : Caller) {s : State} (h : s.flight = .idle) : displayStep c s = s := by
  simp [displayStep, h]

theorem resetFlight_displayStep (c : Caller) {s : State} (h : ResetFlight s) :
    ResetFlight (displayStep c s) := by
  obtain ⟨hf, hs⟩ := h
  cases he : s.flight with
  | idle => rw [displayStep_idle c he]; exact ⟨hf, hs⟩
  | linesOff l b =>
    rw [displayStep_linesOff c s l b he]
    have hsact : s.sact = false := by simpa [he] using hs
    cases l <;> cases b <;> simp [ResetFlight, afterLineOff, hsact]
  | frame b =>
    obtain rfl : b = true := by simpa [he] using hf
    rw [displayStep_frame c s true he]
    by_cases hlast : (enterDueFrame s).spc.val = 46 <;> simp [ResetFlight, hlast]

theorem showFlight_displayStep (c : Caller) {s : State} (h : ShowFlight s) :
    ShowFlight (displayStep c s) := by
  obtain ⟨he, hs⟩ | ⟨he, hs⟩ := h
  · rw [displayStep_frame c s false he]
    by_cases hlast : (enterDueFrame s).spc.val = 46 <;> simp [ShowFlight, hlast]
  · rw [displayStep_idle c he]; exact .inr ⟨he, hs⟩

theorem resetFlight_duringCall {s : State} (h : ResetFlight s) :
    ResetFlight (duringCall startReset s) := by
  unfold duringCall
  split
  case isTrue hf =>
    have hs : s.sact = false := by simpa [hf] using h.2
    simp [ResetFlight, hs]
  case isFalse => exact h

theorem showFlight_duringCall (p : Byte) {s : State} (h : ShowFlight s) :
    ShowFlight (duringCall (startFrame p) s) := by
  unfold duringCall
  split
  case isTrue => exact .inl ⟨rfl, rfl⟩
  case isFalse => exact h

end Sys2Proof.Safety

namespace Sys2Proof.Safety

open Sys2Proof.Machine

/-! ## Every step keeps the flags and positions in order -/

/-- The flags and positions that `ControlInv` relates, what is in flight left out. -/
def flags (s : State) := (s.cst, s.busy, s.armed, s.termPending, s.rpc, s.lpc)

theorem ControlInv.of_flags {s t : State} (h : ControlInv s) (e : flags t = flags s)
    (hsact : t.sact = true → t.flight = .frame false ∨ t.flight = .frame true)
    (hflight : t.flight ≠ .idle →
      (AtReset s ∧ t.flight ≠ .frame false) ∨
        (AtShow s ∧ t.flight = .frame false ∧ t.sact = true)) : ControlInv t := by
  simp only [flags, Prod.mk.injEq] at e
  obtain ⟨hcst, hbusy, harmed, hterm, hrpc, hlpc⟩ := e
  refine ⟨?_, ?_, hsact, ?_, ?_, ?_, ?_⟩ <;> simp only [hcst, hbusy, harmed, hterm, hrpc, hlpc]
  · exact h.busy_iff
  · exact h.armed_iff
  · intro hf
    rcases hflight hf with ⟨⟨hc, hl⟩ | ⟨hc, hl⟩, hn⟩ | ⟨⟨hc, hcall⟩, hframe⟩
    · exact .inl ⟨hc, hl, hn⟩
    · exact .inr (.inl ⟨hc, hl, hn⟩)
    · exact .inr (.inr ⟨hc, hcall, hframe⟩)
  · exact h.term_acted
  · exact h.rpc_pos
  · exact h.lpc_pos

/-- What writes no flag, no position and nothing in flight keeps the invariant. -/
theorem ControlInv.congr {s t : State} (h : ControlInv s) (e : flags t = flags s)
    (hflight : t.flight = s.flight) (hsact : t.sact = s.sact) : ControlInv t := by
  refine h.of_flags e (by rw [hflight, hsact]; exact h.sact_frame) ?_
  rw [hflight, hsact]
  intro hf
  rcases h.flight_called hf with ⟨hc, hl, hn⟩ | ⟨hc, hl, hn⟩ | ⟨hc, hcall, hframe⟩
  · exact .inl ⟨.inl ⟨hc, hl⟩, hn⟩
  · exact .inl ⟨.inr ⟨hc, hl⟩, hn⟩
  · exact .inr ⟨⟨hc, hcall⟩, hframe⟩

/-- Where no display operation is in flight, only the flags and positions are left to show. -/
theorem controlInv_of_quiet {s : State} (hq : s.flight = .idle ∧ s.sact = false)
    (busy : s.busy = true ↔ s.cst = .uninit ∨ s.cst = .setup ∨ s.cst = .rolling)
    (armed : s.armed = true ↔ s.cst = .idle ∨ s.cst = .rolling ∨ (s.cst = .setup ∧ s.lpc.val = 2))
    (term : s.cst = .shuttingDown ∨ s.cst = .halted → s.termPending = true)
    (rpc : s.cst = .rolling → s.rpc.val ≠ 0)
    (lpc : s.cst = .shuttingDown → s.lpc.val ≠ 0) : ControlInv s where
  busy_iff := busy
  armed_iff := armed
  sact_frame hs := by simp [hq.2] at hs
  flight_called hf := absurd hq.1 hf
  term_acted := term
  rpc_pos := rpc
  lpc_pos := lpc

theorem bump_rpc_ne_zero (r : Fin 51) : (bump r).val ≠ 0 := by
  revert r; decide

theorem flags_displayStep_duringCall (c : Caller) {start : State → State} (s : State)
    (hstart : ∀ u, flags (start u) = flags u) :
    flags (displayStep c (duringCall start s)) = flags s := by
  have hd : flags (displayStep c (duringCall start s)) = flags (duringCall start s) := by
    simp [flags]
  rw [hd, duringCall]
  split
  · exact hstart s
  · rfl

/-- The `RESET` of `SETUP` or `SHUTDOWN` is done, and nothing is in flight (R174, R179). -/
theorem controlInv_advanceLpc {s t : State} (h : ControlInv s) (hr : AtReset s)
    (e : flags t = flags s) (hq : t.flight = .idle ∧ t.sact = false) :
    ControlInv (advanceLpc t) := by
  simp only [flags, Prod.mk.injEq] at e
  obtain ⟨hcst, hbusy, harmed, hterm, -, hlpc⟩ := e
  have hb := h.busy_iff
  have ha := h.armed_iff
  have ht := h.term_acted
  obtain ⟨hc, hl⟩ | ⟨hc, hl⟩ := hr <;>
    exact controlInv_of_quiet (by simpa using hq) (by simp_all) (by simp_all [bump])
      (by simp_all) (by simp_all) (by simp_all [bump])

/-- The `RESET` of `SETUP` or `SHUTDOWN` goes on, or ends (R174, R179). -/
theorem controlInv_resetCall (c : Caller) {s : State} (h : ControlInv s) (hr : AtReset s) :
    ControlInv (callStep c startReset advanceLpc s) := by
  have hfl := flags_displayStep_duringCall c s (start := startReset) (by simp [flags])
  obtain ⟨hn, hs⟩ := resetFlight_displayStep c (resetFlight_duringCall (h.resetFlight hr))
  obtain ⟨-, e⟩ | ⟨hend, e⟩ := callStep_cases c startReset advanceLpc s <;> rw [e]
  · exact h.of_flags hfl (fun hsact => .inr (hs hsact)) (fun _ => .inl ⟨hr, hn⟩)
  · exact controlInv_advanceLpc h hr hfl ⟨hend, by simpa [hend] using hs⟩

/-- An action of the roll program is done, and nothing is in flight (R180). -/
theorem controlInv_advanceRpc {s t : State} (h : ControlInv s) (hc : s.cst = .rolling)
    (e : flags t = flags s) (hq : t.flight = .idle ∧ t.sact = false) :
    ControlInv (advanceRpc t) := by
  simp only [flags, Prod.mk.injEq] at e
  obtain ⟨hcst, hbusy, harmed, -, -, -⟩ := e
  have hb := h.busy_iff
  have ha := h.armed_iff
  refine controlInv_of_quiet (by simpa using hq) ?_ ?_ ?_ (fun _ => bump_rpc_ne_zero _) ?_ <;>
    simp_all

/-- A display call of the roll goes on, or ends (R180). -/
theorem controlInv_showCall (c : Caller) (p : Byte) {s : State} (h : ControlInv s)
    (hs : AtShow s) : ControlInv (callStep c (startFrame p) advanceRpc s) := by
  have hfl := flags_displayStep_duringCall c s (start := startFrame p) (by simp [flags])
  have hsf := showFlight_displayStep c (showFlight_duringCall p (h.showFlight hs))
  obtain ⟨hgo, e⟩ | ⟨hend, e⟩ := callStep_cases c (startFrame p) advanceRpc s <;> rw [e]
  · have hframe := hsf.resolve_right (fun hq => hgo hq.1)
    exact h.of_flags hfl (fun _ => .inl hframe.1) (fun _ => .inr ⟨hs, hframe⟩)
  · have hq := hsf.resolve_left (fun hf => by simp [hend] at hf)
    exact controlInv_advanceRpc h hs.1 hfl hq

/-- Every action of the controller's programs and every event keeps the invariant. -/
theorem controlInv_actionStep {s t : State} (h : ControlInv s) (ha : ActionStep s t) :
    ControlInv t := by
  have hbusy := h.busy_iff
  have harmed := h.armed_iff
  have hterm := h.term_acted
  cases ha with
  | same => exact h
  | term => exact { h with term_acted := fun _ => rfl }
  | tick _ => exact h.congr rfl rfl rfl
  | endInit hc =>
    have hq := h.quiet_of_uninit_or_idle (.inl hc)
    apply controlInv_of_quiet <;> simp_all
  | enterShutdown hp hc =>
    have hq := h.quiet_of_uninit_or_idle hc
    apply controlInv_of_quiet <;> simp_all
  | enterRoll hc =>
    have hq := h.quiet_of_uninit_or_idle (.inr hc)
    apply controlInv_of_quiet <;> simp_all
  | resetCall hr => exact controlInv_resetCall _ h hr
  | arm hc hl =>
    have hq := h.quiet (by simp [AtReset, hc, hl]) (by simp [AtShow, hc])
    apply controlInv_of_quiet <;> simp_all [bump]
  | setupEnd hc hl =>
    have hq := h.quiet (by simp [AtReset, hc, hl]) (by simp [AtShow, hc])
    apply controlInv_of_quiet <;> simp_all
  | halt hc hl =>
    have hq := h.quiet (by simp [AtReset, hc, hl]) (by simp [AtShow, hc])
    apply controlInv_of_quiet <;> simp_all
  | showCall hs => exact controlInv_showCall _ _ h hs
  | rollOther f r n w hc hns _ =>
    exact controlInv_advanceRpc h hc rfl (h.quiet (by simp [AtReset, hc]) hns)
  | rollEnd hc hl =>
    have hq := h.quiet (by simp [AtReset, hc]) (not_atShow_of_last hl)
    apply controlInv_of_quiet <;> simp_all

theorem controlInv_agentStep {s t : State} (h : ControlInv s) (ha : AgentStep s t) :
    ControlInv t :=
  controlInv_actionStep h (actionStep_of_agentStep h ha)

/-- A display operation called from outside between the controller's own leaves the invariant as it
is (R129, R238). -/
theorem ControlInv.of_controlView {s t : State} (h : ControlInv s)
    (e : controlView t = controlView s) (hs : t.sact = s.sact) : ControlInv t := by
  simp only [controlView, Prod.mk.injEq] at e
  exact h.congr (by simp [flags, e]) (by simp [e]) hs

theorem sact_of_not_inFlight {s : State} (h : inFlight s = false) : s.sact = false := by
  simp only [inFlight, Bool.or_eq_false_iff] at h
  exact h.1

theorem linesOff_sact (s : State) : (linesOff s).sact = s.sact := by simp [linesOff]

theorem controlInv_execStep {s t : State} (h : ControlInv s) (he : ExecStep s t) :
    ControlInv t := by
  cases he with
  | moved _ ha => exact controlInv_agentStep h ha
  | due => exact controlInv_agentStep h (callerStep_agentStep s)
  | line l v => exact h.congr (by simp [flags]) (by simp) (by simp)
  | cut l v => exact h.congr (by simp [flags]) (by simp) (by simp)
  | wait d => exact h.congr rfl rfl rfl
  | frame p hf =>
    have hs := (sendFrame_over .harness p s).1
    exact h.of_controlView (sendFrame_controlView _ _ s) (by rw [hs, sact_of_not_inFlight hf])
  | reset hf =>
    have hs := (sendFrame_over .harness Config.blank (linesOff s)).1
    exact h.of_controlView (resetCall_controlView _ _ s)
      (by rw [linesOff_sact, hs, sact_of_not_inFlight hf])
  | construct c _ => apply controlInv_of_quiet <;> simp

/-- Settles O45: everything a step can do keeps the flags and positions in order. -/
theorem controlInvKept : Obligations.ControlInvKept := by
  unfold Obligations.ControlInvKept
  intro s t h hstep
  obtain ⟨w, rest, i, -, -, ⟨-, ha⟩ | ⟨u, -, -, he, rfl⟩⟩ | ⟨-, ha⟩ := step_cases s t hstep
  · exact controlInv_agentStep h ha
  · have hs : ControlInv { s with script := rest } := h.congr rfl rfl rfl
    exact (controlInv_execStep hs he).congr rfl rfl rfl
  · have hs : ControlInv { s with free := s.free + 1 } := h.congr rfl rfl rfl
    exact controlInv_agentStep hs ha

end Sys2Proof.Safety

namespace Sys2Proof.Safety

open Sys2Proof.Machine

/-! ## The lines while a display operation of the controller runs -/

/-- The registers that `FrameInv` reads. -/
def frameView (s : State) :=
  (s.data, s.clock, s.latch, s.sr, s.q, s.pat, s.spc, s.garbled)

theorem FrameInv.congr {s t : State} (h : FrameInv s) (e : frameView t = frameView s) :
    FrameInv t := by
  simp only [frameView, Prod.mk.injEq] at e
  obtain ⟨hd, hc, hl, hsr, hq, hp, hspc, hg⟩ := e
  obtain ⟨h1, h2, h3, h4, h5, h6⟩ := h
  constructor <;> simp only [hd, hc, hl, hsr, hq, hp, hspc, hg] <;> assumption

/-- Clock and latch are low, and the connected register holds and shows `p` (R42 items 1 and 2). -/
def Shows (p : Byte) (s : State) : Prop :=
  s.garbled = false ∧ s.clock = false ∧ s.latch = false ∧ s.sr = p ∧ s.q = p

/-- Before its last micro-step, a wait, a frame has brought its pattern to the display (R66, R130). -/
theorem FrameInv.shows_last {s : State} (h : FrameInv s) (hk : s.spc.val = 46) :
    Shows s.pat s := by
  obtain ⟨hg, hc, hl, -, hsr, hq⟩ := h
  simp [hk, clocksDone] at hc hl hsr hq
  have hp := s.pat.isLt
  exact ⟨hg, hc, hl, BitVec.eq_of_toNat_eq (by omega), hq⟩

/-- The micro-step after which a frame is over leaves its pattern on the display (R66, R130). -/
theorem shows_frameStep_last (c : Caller) {s : State} (h : FrameInv s) (hk : s.spc.val = 46) :
    Shows s.pat (frameStep c s) := by
  rw [frameStep_last c s (Fin.ext hk)]
  exact h.shows_last hk

/-- The lines while a `RESET` of the controller runs, by what is due next; where nothing is, it has
ended (R153, R154, R262). -/
def ResetLines (s : State) : Prop :=
  match s.flight with
  | .idle => Shows Config.blank s ∧ s.data = false
  | .linesOff l closing =>
      (l ≠ .data → s.data = false) ∧ (l = .latch → s.clock = false) ∧
        (closing = true → Shows Config.blank s)
  | .frame _ =>
      if s.sact then FrameInv s ∧ s.pat = Config.blank
      else s.data = false ∧ s.clock = false ∧ s.latch = false

theorem resetLines_idle {s : State} (h : s.flight = .idle) :
    ResetLines s ↔ Shows Config.blank s ∧ s.data = false := by
  simp only [ResetLines, h]

theorem resetLines_linesOff {s : State} {l : Line} {b : Bool} (h : s.flight = .linesOff l b) :
    ResetLines s ↔ (l ≠ .data → s.data = false) ∧ (l = .latch → s.clock = false) ∧
      (b = true → Shows Config.blank s) := by
  simp only [ResetLines, h]

theorem resetLines_running {s : State} {b : Bool} (h : s.flight = .frame b)
    (hs : s.sact = true) : ResetLines s ↔ FrameInv s ∧ s.pat = Config.blank := by
  simp only [ResetLines, h, hs, if_true]

theorem resetLines_due {s : State} {b : Bool} (h : s.flight = .frame b) (hs : s.sact = false) :
    ResetLines s ↔ s.data = false ∧ s.clock = false ∧ s.latch = false := by
  simp only [ResetLines, h, hs, Bool.false_eq_true, if_false]

/-- Driving a line low makes no rising edge, so what the register shows stays (R61, R65). -/
theorem Shows.lineWrite_low {p : Byte} {s : State} (h : Shows p s) (l : Line) :
    Shows p (lineWrite l false s) := by
  obtain ⟨hg, hc, hl, hsr, hq⟩ := h
  cases l <;> simp [Shows, hg, hc, hl, hsr, hq]

/-- The frame of `RESET`, entered if it is only due (R153, R225). -/
theorem ResetLines.enterDueFrame {s : State} {b : Bool} (h : ResetLines s)
    (hf : s.flight = .frame b) :
    FrameInv (enterDueFrame s) ∧ (enterDueFrame s).pat = Config.blank := by
  cases hs : s.sact with
  | true => simpa [Machine.enterDueFrame, hs] using (resetLines_running hf hs).mp h
  | false =>
    obtain ⟨-, hc, hl⟩ := (resetLines_due hf hs).mp h
    simpa [Machine.enterDueFrame, hs] using frameInv_begin Config.blank s hc hl

/-- A micro-step of a `LINES_OFF` (R154). -/
theorem ResetLines.displayStep_linesOff (c : Caller) {s : State} {l : Line} {b : Bool}
    (h : ResetLines s) (hf : s.flight = .linesOff l b) (hs : s.sact = false) :
    ResetLines (displayStep c s) := by
  obtain ⟨hd, hc, hb⟩ := (resetLines_linesOff hf).mp h
  rw [Machine.displayStep_linesOff c s l b hf]
  have hb' : b = true → Shows Config.blank (lineWrite l false s) := fun e => (hb e).lineWrite_low l
  cases l with
  | data => exact ⟨fun _ => rfl, by simp, hb'⟩
  | clock => exact ⟨fun _ => hd (by simp), fun _ => rfl, hb'⟩
  | latch =>
    cases b with
    | true => exact ⟨hb' rfl, hd (by simp)⟩
    | false => exact (resetLines_due rfl (by simp [hs])).mpr ⟨hd (by simp), hc rfl, rfl⟩

/-- A micro-step of the frame of `RESET`, or the last one, which the closing `LINES_OFF` follows
(R153). -/
theorem ResetLines.displayStep_frame (c : Caller) {s : State} (h : ResetLines s)
    (hf : s.flight = .frame true) : ResetLines (displayStep c s) := by
  obtain ⟨hframe, hpat⟩ := h.enterDueFrame hf
  rw [Machine.displayStep_frame c s true hf]
  by_cases hlast : (Machine.enterDueFrame s).spc.val = 46
  · have hshow := shows_frameStep_last c hframe hlast
    rw [hpat] at hshow
    rw [resetLines_linesOff (l := .data) (b := true) (by simp [hlast])]
    exact ⟨by simp, by simp, fun _ => hshow⟩
  · have hstep := frameInv_step c _ hframe hlast
    rw [resetLines_running (b := true) (by simp [hlast]) (by simp [hlast])]
    exact ⟨hstep.congr rfl, by simpa using hpat⟩

theorem ResetLines.displayStep (c : Caller) {s : State} (h : ResetLines s)
    (hr : ResetFlight s) : ResetLines (displayStep c s) := by
  obtain ⟨hn, hs⟩ := hr
  cases hf : s.flight with
  | idle => rwa [displayStep_idle c hf]
  | linesOff l b => exact h.displayStep_linesOff c hf (by simpa [hf] using hs)
  | frame b =>
    obtain rfl : b = true := by simpa [hf] using hn
    exact h.displayStep_frame c hf

/-- The lines while a frame of pattern `p` that the roll has called runs; where nothing is due, it has
ended (R66, R150). -/
def ShowLines (p : Byte) (s : State) : Prop :=
  if s.flight = .idle then Shows p s else FrameInv s ∧ s.pat = p

theorem showLines_idle {p : Byte} {s : State} (h : s.flight = .idle) :
    ShowLines p s ↔ Shows p s := by
  simp only [ShowLines, h, if_true]

theorem showLines_running {p : Byte} {s : State} (h : s.flight = .frame false) :
    ShowLines p s ↔ FrameInv s ∧ s.pat = p := by
  simp [ShowLines, h]

theorem ShowLines.displayStep (c : Caller) {p : Byte} {s : State} (h : ShowLines p s)
    (hs : ShowFlight s) : ShowLines p (displayStep c s) := by
  obtain ⟨hf, hsact⟩ | ⟨hf, -⟩ := hs
  · obtain ⟨hframe, rfl⟩ := (showLines_running hf).mp h
    have hent : enterDueFrame s = s := by simp [enterDueFrame, hsact]
    rw [displayStep_frame c s false hf, hent]
    by_cases hlast : s.spc.val = 46
    · rw [showLines_idle (by simp [hlast])]
      exact shows_frameStep_last c hframe hlast
    · rw [showLines_running (by simp [hlast])]
      exact ⟨(frameInv_step c s hframe hlast).congr rfl, frameStep_pat c s⟩
  · rwa [displayStep_idle c hf]

end Sys2Proof.Safety

namespace Sys2Proof.Safety

open Sys2Proof.Machine

/-! ## Every step of the block itself keeps the lines in order -/

/-- The registers that `LineInv` reads beside those of a frame. -/
def lineView (s : State) :=
  (frameView s, s.sact, s.flight, s.cst, s.lpc, s.rpc, s.rtmp, s.finalDigit)

theorem LineInv.congr {s t : State} (h : LineInv s) (e : lineView t = lineView s) : LineInv t := by
  simp only [lineView, Prod.mk.injEq] at e
  obtain ⟨hframe, hsact, hflight, hcst, hlpc, hrpc, hrtmp, hfinal⟩ := e
  have hf : FrameInv s → FrameInv t := fun hs => hs.congr hframe
  simp only [frameView, Prod.mk.injEq] at hframe
  obtain ⟨hd, hc, hl, hsr, hq, hp, -, hg⟩ := hframe
  obtain ⟨h1, h2, h3, h4, h5, h6, h7, h8, h9, h10⟩ := h
  refine ⟨fun hs => hf (h1 (hsact ▸ hs)), ?_, ?_, ?_, ?_, ?_, ?_, ?_, ?_, ?_⟩ <;>
    simp only [displayKnown, justReset, safeOff, calledPattern, hsact, hflight, hcst, hlpc, hrpc,
      hrtmp, hfinal, hd, hc, hl, hsr, hq, hp, hg] <;> assumption

/-- Between display operations only what the display shows is left to prove. -/
theorem lineInv_of_quiet {s : State} (hf : s.flight = .idle) (hs : s.sact = false)
    (known : displayKnown s → Shows s.q s)
    (after_reset : justReset s → safeOff s)
    (roll_end : s.cst = .rolling → s.rpc.val = 50 → s.q = patternOf s.finalDigit.val) :
    LineInv s where
  in_frame h := by simp [hs] at h
  reset_pattern h := by simp [hs] at h
  roll_pattern h := by simp [hs] at h
  clock_due _ h := by simp [hf] at h
  latch_due _ h := by simp [hf] at h
  frame_due h := by simp [hf] at h
  closing _ h := by simp [hf] at h
  known hk := by
    obtain ⟨hg, hc, hl, hsr, -⟩ := known hk
    exact ⟨hg, hc, hl, hsr⟩
  after_reset := after_reset
  roll_end hc _ := roll_end hc

theorem LineInv.shows {s : State} (h : LineInv s) (hk : displayKnown s) : Shows s.q s := by
  obtain ⟨hg, hc, hl, hsr⟩ := h.known hk
  exact ⟨hg, hc, hl, hsr, rfl⟩

theorem LineInv.resetLines {s : State} (h : LineInv s) (hf : s.flight ≠ .idle)
    (hr : ResetFlight s) : ResetLines s := by
  obtain ⟨hn, hs⟩ := hr
  cases he : s.flight with
  | idle => exact absurd he hf
  | linesOff l b =>
    rw [resetLines_linesOff he]
    refine ⟨?_, ?_, ?_⟩
    · cases l with
      | data => simp
      | clock => exact fun _ => h.clock_due b he
      | latch => exact fun _ => (h.latch_due b he).1
    · rintro rfl
      exact (h.latch_due b he).2
    · rintro rfl
      exact h.closing l he
  | frame b =>
    obtain rfl : b = true := by simpa [he] using hn
    cases hsact : s.sact with
    | true => exact (resetLines_running he hsact).mpr ⟨h.in_frame hsact, h.reset_pattern hsact he⟩
    | false => exact (resetLines_due he hsact).mpr (h.frame_due he hsact)

theorem lineInv_of_resetLines {s : State} (h : ResetLines s) (hf : s.flight ≠ .idle)
    (hr : ResetFlight s) : LineInv s := by
  obtain ⟨hn, hs⟩ := hr
  have hrun (hsact : s.sact = true) := (resetLines_running (hs hsact) hsact).mp h
  refine ⟨fun hsact => (hrun hsact).1, fun hsact _ => (hrun hsact).2, fun _ he => absurd he hn,
    ?_, ?_, ?_, ?_, fun hk => absurd hk.1 hf, fun hk => absurd hk.1 hf, fun _ he => absurd he hf⟩
  · intro b he
    exact ((resetLines_linesOff he).mp h).1 (by simp)
  · intro b he
    obtain ⟨hd, hc, -⟩ := (resetLines_linesOff he).mp h
    exact ⟨hd (by simp), hc rfl⟩
  · exact fun he hsact => (resetLines_due he hsact).mp h
  · exact fun l he => ((resetLines_linesOff he).mp h).2.2 rfl

theorem LineInv.showLines {s : State} (h : LineInv s) (hf : s.flight = .frame false)
    (hs : s.sact = true) : ShowLines (calledPattern s) s :=
  (showLines_running hf).mpr ⟨h.in_frame hs, h.roll_pattern hs hf⟩

theorem lineInv_of_showLines {s : State} (h : ShowLines (calledPattern s) s)
    (hf : s.flight = .frame false) (hs : s.sact = true) : LineInv s := by
  obtain ⟨hframe, hpat⟩ := (showLines_running hf).mp h
  constructor <;> simp [displayKnown, justReset, hf, hs, hframe, hpat]

/-- The lines at the next micro-step of the `RESET` of `SETUP` or `SHUTDOWN` (R153). -/
theorem resetLines_duringCall {s : State} (h : LineInv s) (hr : ResetFlight s) :
    ResetLines (duringCall startReset s) := by
  unfold duringCall
  split
  case isTrue hf => exact (resetLines_linesOff rfl).mpr (by simp)
  case isFalse hf => exact h.resetLines hf hr

theorem lineInv_resetCall (c : Caller) {s : State} (hi : ControlInv s) (h : LineInv s)
    (hr : AtReset s) : LineInv (callStep c startReset advanceLpc s) := by
  have hrf := hi.resetFlight hr
  have hlines := (resetLines_duringCall h hrf).displayStep c (resetFlight_duringCall hrf)
  have hflight := resetFlight_displayStep c (resetFlight_duringCall hrf)
  obtain ⟨hgo, e⟩ | ⟨hend, e⟩ := callStep_cases c startReset advanceLpc s <;> rw [e]
  · exact lineInv_of_resetLines hlines hgo hflight
  · obtain ⟨⟨hg, hc, hl, hsr, hq⟩, hd⟩ := (resetLines_idle hend).mp hlines
    have hsact : (displayStep c (duringCall startReset s)).sact = false := by
      simpa [hend] using hflight.2
    have hfl := flags_displayStep_duringCall c s (start := startReset) (by simp [flags])
    simp only [flags, Prod.mk.injEq] at hfl
    obtain ⟨hcst, -⟩ := hfl
    have hnroll : (displayStep c (duringCall startReset s)).cst ≠ .rolling := by
      rw [hcst]
      obtain ⟨hc', -⟩ | ⟨hc', -⟩ := hr <;> simp [hc']
    exact lineInv_of_quiet hend hsact (fun _ => ⟨hg, hc, hl, hsr.trans hq.symm, rfl⟩)
      (fun _ => ⟨hd, hc, hl, hsr, hq⟩) (fun hroll => absurd hroll hnroll)

theorem showLines_duringCall {s : State} (h : LineInv s) (hs : AtShow s) (hf : ShowFlight s) :
    ShowLines (calledPattern s) (duringCall (startFrame (calledPattern s)) s) := by
  unfold duringCall
  split
  case isTrue hidle =>
    obtain ⟨-, hc, hl, -⟩ := h.known ⟨hidle, .inr (.inl hs.1)⟩
    exact (showLines_running rfl).mpr ⟨(frameInv_begin (calledPattern s) s hc hl).congr rfl, rfl⟩
  case isFalse hgo =>
    obtain ⟨hframe, hsact⟩ := hf.resolve_right (fun hq => hgo hq.1)
    exact h.showLines hframe hsact

/-- What `calledPattern` reads, no micro-step and no call writes. -/
theorem calledPattern_displayStep_duringCall (c : Caller) (p : Byte) (s : State) :
    calledPattern (displayStep c (duringCall (startFrame p) s)) = calledPattern s := by
  unfold duringCall
  split <;> simp [calledPattern]

theorem finalDigit_displayStep_duringCall (c : Caller) (p : Byte) (s : State) :
    (displayStep c (duringCall (startFrame p) s)).finalDigit = s.finalDigit := by
  unfold duringCall
  split <;> simp

/-- The last display call of the roll shows the final digit (R180, R185). -/
theorem calledPattern_of_bump_last {s : State} (hs : AtShow s) (hl : (bump s.rpc).val = 50) :
    calledPattern s = patternOf s.finalDigit.val := by
  have hlt := (rollAction_call_range _ hs.2).2
  rw [bump_val _ (by omega)] at hl
  simp [calledPattern, rollAction_lastShow (r := s.rpc) (by omega)]

theorem lineInv_showCall (c : Caller) {s : State} (hi : ControlInv s) (h : LineInv s)
    (hs : AtShow s) :
    LineInv (callStep c (startFrame (calledPattern s)) advanceRpc s) := by
  have hsf := hi.showFlight hs
  have hlines := (showLines_duringCall h hs hsf).displayStep c (showFlight_duringCall _ hsf)
  have hflight := showFlight_displayStep c (showFlight_duringCall (calledPattern s) hsf)
  have hpat := calledPattern_displayStep_duringCall c (calledPattern s) s
  obtain ⟨hgo, e⟩ | ⟨hend, e⟩ :=
    callStep_cases c (startFrame (calledPattern s)) advanceRpc s <;> rw [e]
  · obtain ⟨hframe, hsact⟩ := hflight.resolve_right (fun hq => hgo hq.1)
    exact lineInv_of_showLines (by rwa [hpat]) hframe hsact
  · obtain ⟨hf, hsact⟩ := hflight.resolve_left (fun hf => by simp [hend] at hf)
    obtain ⟨hg, hc, hl, hsr, hq⟩ := (showLines_idle hend).mp hlines
    have hfl := flags_displayStep_duringCall c s (start := startFrame (calledPattern s))
      (by simp [flags])
    simp only [flags, Prod.mk.injEq] at hfl
    obtain ⟨hcst, -, -, -, hrpc, -⟩ := hfl
    refine lineInv_of_quiet hend hsact (fun _ => ⟨hg, hc, hl, hsr.trans hq.symm, rfl⟩) ?_ ?_
    · simp only [justReset, advanceRpc_cst, hcst, hs.1]
      simp
    · intro _ hlast
      rw [advanceRpc_rpc, hrpc] at hlast
      rw [advanceRpc_q, hq, calledPattern_of_bump_last hs hlast, advanceRpc_finalDigit,
        finalDigit_displayStep_duringCall]

theorem lineInv_actionStep {s t : State} (hi : ControlInv s) (h : LineInv s)
    (ha : ActionStep s t) : LineInv t := by
  cases ha with
  | same => exact h
  | term => exact h.congr rfl
  | tick _ => exact h.congr rfl
  | endInit hc =>
    obtain ⟨hf, hs⟩ := hi.quiet_of_uninit_or_idle (.inl hc)
    apply lineInv_of_quiet <;> simp [displayKnown, justReset, hf, hs]
  | enterShutdown hp hc =>
    obtain ⟨hf, hs⟩ := hi.quiet_of_uninit_or_idle hc
    apply lineInv_of_quiet <;> simp [displayKnown, justReset, hf, hs]
  | enterRoll hc =>
    obtain ⟨hf, hs⟩ := hi.quiet_of_uninit_or_idle (.inr hc)
    have hk := h.shows ⟨hf, .inl hc⟩
    apply lineInv_of_quiet <;> simp [justReset, hf, hs]
    exact fun _ => hk
  | resetCall hr => exact lineInv_resetCall _ hi h hr
  | arm hc hl =>
    obtain ⟨hf, hs⟩ := hi.quiet (by simp [AtReset, hc, hl]) (by simp [AtShow, hc])
    have hk := h.shows ⟨hf, by simp [hc, hl]⟩
    have hoff := h.after_reset ⟨hf, by simp [hc, hl]⟩
    exact lineInv_of_quiet hf hs (fun _ => hk) (fun _ => hoff) (by simp [hc])
  | setupEnd hc hl =>
    obtain ⟨hf, hs⟩ := hi.quiet (by simp [AtReset, hc, hl]) (by simp [AtShow, hc])
    have hk := h.shows ⟨hf, by simp [hc, hl]⟩
    exact lineInv_of_quiet hf hs (fun _ => hk) (by simp [justReset]) (by simp)
  | halt hc hl =>
    obtain ⟨hf, hs⟩ := hi.quiet (by simp [AtReset, hc, hl]) (by simp [AtShow, hc])
    have hk := h.shows ⟨hf, by simp [hc, hl]⟩
    have hoff := h.after_reset ⟨hf, by simp [hc, hl]⟩
    exact lineInv_of_quiet hf hs (fun _ => hk) (fun _ => hoff) (by simp)
  | showCall hs => exact lineInv_showCall _ hi h hs
  | rollOther f r n w hc hns hlt =>
    obtain ⟨hf, hs⟩ := hi.quiet (by simp [AtReset, hc]) hns
    have hk := h.shows ⟨hf, by simp [hc]⟩
    refine lineInv_of_quiet hf hs (fun _ => hk) (by simp [justReset, hc]) ?_
    intro _ (hlast : (bump s.rpc).val = 50)
    rw [bump_val _ (by omega)] at hlast
    omega
  | rollEnd hc hl =>
    obtain ⟨hf, hs⟩ := hi.quiet (by simp [AtReset, hc]) (not_atShow_of_last hl)
    have hk := h.shows ⟨hf, by simp [hc]⟩
    exact lineInv_of_quiet hf hs (fun _ => hk) (by simp [justReset]) (by simp)

/-- What is left of the script is the block's own (log entry 1). -/
theorem ownScript_of_subset {s t : State} (h : ownScript s) (hsub : t.script ⊆ s.script) :
    ownScript t :=
  fun w hw => h w (hsub hw)

/-- The word of a program that has not ended was there before (log entry 1). -/
theorem keepUnfinished_script_subset (w : OpWord) (i : Instr) (s : State) :
    (keepUnfinished w i s).script ⊆ w :: s.script := by
  unfold keepUnfinished
  split <;> simp

/-- In a run of the block itself a step is a step of an agent or an event, on a script of which at most
the first word is taken (R104, R171). -/
theorem step_own_cases {s t : State} (ho : ownScript s) (h : step s = .next t) :
    t.script ⊆ s.script ∧
      ∃ r n u, AgentStep { s with script := r, free := n } u ∧ lineView t = lineView u := by
  obtain ⟨w, rest, i, hw, hd, ⟨-, ha⟩ | ⟨u, -, hexec, -, rfl⟩⟩ | ⟨-, ha⟩ := step_cases s t h
  · exact ⟨by rw [agentStep_script s t ha]; simp, s.script, s.free, t, ha, rfl⟩
  · obtain ⟨i', hd', hown⟩ := ho w (by simp [hw])
    obtain rfl : i' = i := by simpa [hd] using hd'.symm
    obtain ⟨u', e, ha⟩ := exec_own_cases i' { s with script := rest } hown
    obtain rfl : u' = u := by simpa [hexec] using e.symm
    refine ⟨?_, rest, s.free, u', ha, rfl⟩
    have hscript := agentStep_script _ _ ha
    simpa [hscript, hw] using keepUnfinished_script_subset w i' u'
  · exact ⟨by rw [agentStep_script _ t ha]; simp, s.script, s.free + 1, t, ha, rfl⟩

/-- Settles O58: in a run of the block itself every step is an action of a program or an event, and each
keeps the lines in order. -/
theorem lineInvKept : Obligations.LineInvKept := by
  unfold Obligations.LineInvKept
  intro s t ho hi h hstep
  obtain ⟨hsub, r, n, u, ha, e⟩ := step_own_cases ho hstep
  have hi' : ControlInv { s with script := r, free := n } := hi.congr rfl rfl rfl
  have h' : LineInv { s with script := r, free := n } := h.congr rfl
  have hu : LineInv u := lineInv_actionStep hi' h' (actionStep_of_agentStep hi' ha)
  exact ⟨ownScript_of_subset ho hsub, hu.congr e⟩

end Sys2Proof.Safety

namespace Sys2Proof.Safety

open Sys2Proof.Machine

/-! ## The six line writes as operations -/

/-- The line write that an operation is, for the six that are one (R121 to R126). -/
def lineOf : Instr → Option (Line × Bool)
  | .dataLo => some (.data, false)
  | .dataHi => some (.data, true)
  | .clkLo => some (.clock, false)
  | .clkHi => some (.clock, true)
  | .latLo => some (.latch, false)
  | .latHi => some (.latch, true)
  | _ => none

theorem lineOf_eq_some_iff (i : Instr) (l : Line) (v : Bool) :
    lineOf i = some (l, v) ↔
      (i, l, v) ∈ [(Instr.dataLo, Line.data, false), (.dataHi, .data, true),
        (.clkLo, .clock, false), (.clkHi, .clock, true), (.latLo, .latch, false),
        (.latHi, .latch, true)] := by
  cases i <;> simp [lineOf, eq_comm]

theorem exec_of_lineOf {i : Instr} {l : Line} {v : Bool} (h : lineOf i = some (l, v)) (s : State) :
    exec i s = lineOperation l v s := by
  cases i <;> cases h <;> rfl

theorem conditionOf_of_lineOf {i : Instr} {l : Line} {v : Bool} (h : lineOf i = some (l, v))
    (s : State) : conditionOf i s = lineCondition l v s := by
  cases i <;> cases h <;> rfl

/-- Only a line write can cut a frame (R225). -/
theorem conditionOf_of_not_lineOf {i : Instr} (h : lineOf i = none) (s : State) :
    conditionOf i s ≠ some .cutFrame := by
  cases i <;> simp_all [lineOf, conditionOf]

theorem not_lineOf_of_isOwn {i : Instr} (h : isOwn i = true) : lineOf i = none := by
  cases i <;> simp_all [lineOf, isOwn]

theorem cutsFrame_iff (l : Line) (v : Bool) (s : State) :
    cutsFrame l v s = true ↔ s.sact = true ∧ dueMicroOp s ≠ some (.write l v) := by
  simp [cutsFrame]

theorem lineCondition_cutFrame_iff (l : Line) (v : Bool) (s : State) :
    lineCondition l v s = some .cutFrame ↔ cutsFrame l v s = true := by
  simp [lineCondition]

/-- Where the condition X5 is met (R221, R225). -/
theorem conditionOf_cutFrame_iff (i : Instr) (s : State) :
    conditionOf i s = some .cutFrame ↔ ∃ l v, lineOf i = some (l, v) ∧ cutsFrame l v s = true := by
  cases hl : lineOf i with
  | none => simp [conditionOf_of_not_lineOf hl]
  | some w =>
    obtain ⟨l, v⟩ := w
    rw [conditionOf_of_lineOf hl, lineCondition_cutFrame_iff]
    constructor
    · exact fun h => ⟨l, v, rfl, h⟩
    · rintro ⟨_, _, ⟨⟩, h⟩
      exact h

theorem lineOperation_of_due {l : Line} {v : Bool} {s : State}
    (h : dueMicroOp s = some (.write l v)) : lineOperation l v s = .next (callerStep s) := by
  simp [lineOperation, h]

/-- A write that is not due is a second writer's, or falls where no frame is running (log entry 14). -/
theorem lineOperation_of_not_due {l : Line} {v : Bool} {s : State}
    (h : dueMicroOp s ≠ some (.write l v)) :
    lineOperation l v s = .next (if s.sact then cutFrame l v s else lineWrite l v s) := by
  cases hs : s.sact <;> simp [lineOperation, cutsFrame, h, hs]

/-- On defined contents a line write sets the line and the register reacts (R61, R65). -/
theorem lineWrite_of_clean (l : Line) (v : Bool) {s : State} (h : s.garbled = false) :
    lineWrite l v s = driveLine l v s := by
  cases l <;> simp [lineWrite, garble, driveLine, h]

/-- On arbitrary contents a line write sets the line and leaves them arbitrary (R225; log entry 22). -/
theorem lineWrite_of_garbled (l : Line) (v : Bool) {s : State} (h : s.garbled = true) :
    lineWrite l v s = { s with
      data := if l = .data then v else s.data
      clock := if l = .clock then v else s.clock
      latch := if l = .latch then v else s.latch
      sr := Config.glitchSr s.free, q := Config.glitchQ s.free, free := s.free + 1 } := by
  cases l <;> simp [lineWrite, garble, driveLine, h]

/-- Settles O10: where no frame is running, a write that is not due is the plain line write, and the
register's contents are defined. -/
theorem lineWritesReact : Obligations.LineWritesReact := by
  unfold Obligations.LineWritesReact
  intro s hs hg
  have hwrite {i l v} (hi : lineOf i = some (l, v)) (hd : dueMicroOp s ≠ some (.write l v)) :
      exec i s = .next (driveLine l v s) := by
    rw [exec_of_lineOf hi, lineOperation_of_not_due hd, hs, if_neg (by decide),
      lineWrite_of_clean l v hg]
  refine ⟨hwrite rfl, ?_, ?_, ?_, ?_, ?_⟩ <;> intro hd <;> rw [hwrite rfl hd] <;>
    simp [driveLine, shiftIn]

/-- Settles O11: a write that is due is the calling agent's; any other finds the contents arbitrary, or
cuts the frame and makes them so. -/
theorem lineWritesInFlightOrGarbled : Obligations.LineWritesInFlightOrGarbled := by
  unfold Obligations.LineWritesInFlightOrGarbled
  intro s l v i hi
  rw [exec_of_lineOf ((lineOf_eq_some_iff i l v).mpr hi)]
  refine ⟨lineOperation_of_due, fun hd harb => ?_⟩
  rw [lineOperation_of_not_due hd]
  cases hs : s.sact with
  | true => simp [cutFrame, lineWrite_of_garbled, hs]
  | false =>
    have hg : s.garbled = true := by simpa [hs] using harb
    simp [lineWrite_of_garbled l v hg, hg, hs]

/-! ## Which configuration is refused -/

theorem durationsLegal_iff (c : Configuration) :
    c.durationsLegal = true ↔ 0 ≤ c.bitDelay ∧ 0 ≤ c.initDelay ∧ 0 ≤ c.tick ∧ 0 ≤ c.debounce := by
  simp [Configuration.durationsLegal, Duration.legal_iff, and_assoc]

theorem pinsDistinct_iff (c : Configuration) :
    c.pinsDistinct = true ↔ [c.pinData, c.pinLatch, c.pinClock, c.pinButton].Nodup := by
  simp [Configuration.pinsDistinct, and_assoc]

/-- Of an illegal configuration `POWERON` is refused (R71, D26; log entry 18). -/
theorem exec_poweron_of_illegal {c : SuppliedConfig} (h : (Config.resolve c).legal = false)
    (s : State) : ∃ r, exec (.poweron c) s = .refused r := by
  simp only [exec, execPoweron]
  split
  · exact ⟨_, rfl⟩
  · split
    · exact ⟨_, rfl⟩
    · simp_all [Configuration.legal]

/-- Of a legal configuration a block is constructed, unless one exists (R173; log entry 11). -/
theorem exec_poweron_of_legal {c : SuppliedConfig} (h : (Config.resolve c).legal = true)
    (s : State) :
    exec (.poweron c) s = .next (if s.built then s else construct (Config.resolve c) s) := by
  obtain ⟨hd, hp⟩ := Bool.and_eq_true_iff.mp h
  cases hb : s.built <;> simp [exec, execPoweron, hd, hp, hb]

/-- Settles O29: a legal configuration goes on, an illegal one is refused. -/
theorem powerOnRefusesIllegal : Obligations.PowerOnRefusesIllegal := by
  unfold Obligations.PowerOnRefusesIllegal
  intro c s
  refine ⟨?_, ⟨fun h => exec_poweron_of_illegal h s, ?_⟩, fun h hb => ?_⟩
  · rw [Configuration.legal, Bool.and_eq_true, durationsLegal_iff, pinsDistinct_iff]
  · rintro ⟨r, hr⟩
    by_contra hlegal
    rw [exec_poweron_of_legal (by simpa using hlegal)] at hr
    cases hr
  · rw [exec_poweron_of_legal h, hb, if_pos rfl]

end Sys2Proof.Safety

namespace Sys2Proof.Safety

open Sys2Proof.Machine

/-! ## What one step does to the lines and the connected register -/

/-- The lines and the contents of the connected register (R21 to R23, R27, R28). -/
def signals (s : State) := (s.data, s.clock, s.latch, s.sr, s.q)

/-- The lines and the connected register are left alone, or react to one line write. What that write
finds differs from `s` at most in that the contents have become arbitrary (a frame is cut), or defined
again (a frame is entered). -/
inductive LineAction (s t : State) : Prop
  | none : signals t = signals s → LineAction s t
  | write (l : Line) (v : Bool) (u : State) : signals u = signals s → t.garbled = u.garbled →
      signals t = signals (lineWrite l v u) → LineAction s t

theorem LineAction.congr {s s' t t' : State} (h : LineAction s' t') (hs : signals s' = signals s)
    (ht : signals t = signals t') (hg : t.garbled = t'.garbled) : LineAction s t := by
  cases h with
  | none e => exact .none (by rw [ht, e, hs])
  | write l v u hu hgu e => exact .write l v u (hu.trans hs) (hg.trans hgu) (ht.trans e)

/-- One line write changes one line (R61). -/
theorem LineAction.lines_kept {s t : State} (h : LineAction s t) :
    (t.data = s.data ∧ t.clock = s.clock) ∨ (t.data = s.data ∧ t.latch = s.latch) ∨
      (t.clock = s.clock ∧ t.latch = s.latch) := by
  cases h with
  | none e => simp_all [signals]
  | write l v u hu _ e => cases l <;> simp_all [signals]

/-- The buffer is shifted at a rising edge of the clock, and else left alone (R63, R65). -/
theorem lineWrite_sr_of_clean (l : Line) (v : Bool) {s : State} (h : s.garbled = false) :
    (lineWrite l v s).sr =
      if s.clock = false ∧ (lineWrite l v s).clock = true then shiftIn s.data s.sr else s.sr := by
  cases hc : s.clock with
  | true => cases l <;> simp [h, hc]
  | false => cases l <;> simp [h, hc]

/-- The outputs take the buffer at a rising edge of the latch, and else are left alone (R64, R65). -/
theorem lineWrite_q_of_clean (l : Line) (v : Bool) {s : State} (h : s.garbled = false) :
    (lineWrite l v s).q =
      if s.latch = false ∧ (lineWrite l v s).latch = true then s.sr else s.q := by
  cases hl : s.latch with
  | true => cases l <;> simp [h, hl]
  | false => cases l <;> simp [h, hl]

theorem LineAction.sr_eq {s t : State} (h : LineAction s t) (ht : t.garbled = false) :
    t.sr = if s.clock = false ∧ t.clock = true then shiftIn s.data s.sr else s.sr := by
  cases h with
  | none e => cases hc : s.clock <;> simp_all [signals]
  | write l v u hu hg e =>
    simp only [signals, Prod.mk.injEq] at hu e
    simpa only [hu, e] using lineWrite_sr_of_clean l v (hg.symm.trans ht)

theorem LineAction.q_eq {s t : State} (h : LineAction s t) (ht : t.garbled = false) :
    t.q = if s.latch = false ∧ t.latch = true then s.sr else s.q := by
  cases h with
  | none e => cases hl : s.latch <;> simp_all [signals]
  | write l v u hu hg e =>
    simp only [signals, Prod.mk.injEq] at hu e
    simpa only [hu, e] using lineWrite_q_of_clean l v (hg.symm.trans ht)

theorem lineAction_lineWrite (l : Line) (v : Bool) (s : State) : LineAction s (lineWrite l v s) :=
  .write l v s rfl (by simp) rfl

theorem lineAction_cutFrame (l : Line) (v : Bool) (s : State) : LineAction s (cutFrame l v s) :=
  (lineAction_lineWrite l v { s with faulted := true, garbled := true }).congr rfl rfl rfl

theorem lineAction_frameStep (c : Caller) (s : State) : LineAction s (frameStep c s) := by
  cases h : frameOp s.pat s.spc with
  | write l v =>
    exact (lineAction_lineWrite l v s).congr rfl (by simp [frameStep, microEffect, h, signals])
      (by simp)
  | wait => exact .none (by simp [frameStep, microEffect, h, signals])

/-- A micro-step of a display operation is at most one line write (R130, R154). -/
theorem lineAction_displayStep (c : Caller) (s : State) : LineAction s (displayStep c s) := by
  cases h : s.flight with
  | idle => rw [displayStep_idle c h]; exact .none rfl
  | linesOff l b =>
    rw [displayStep_linesOff c s l b h]
    exact (lineAction_lineWrite l false s).congr rfl rfl rfl
  | frame b =>
    rw [displayStep_frame c s b h]
    exact (lineAction_frameStep c (enterDueFrame s)).congr (by simp [signals]) rfl rfl

/-- What a step of an agent, or an event, does beside the controller's registers: nothing, or the next
micro-step of a display operation called in a state in which an agent calls one (R74, R150, R171). -/
inductive BusStep (s : State) : State → Prop
  | quiet {t : State} : signals t = signals s → t.faulted = s.faulted → BusStep s t
  | call (c : Caller) (start done : State → State) :
      s.cst = .setup ∨ s.cst = .shuttingDown ∨ s.cst = .rolling →
      (∀ u, signals (start u) = signals u ∧ (start u).faulted = u.faulted) →
      (∀ u, signals (done u) = signals u ∧ (done u).faulted = u.faulted ∧
        (done u).garbled = u.garbled) →
      BusStep s (callStep c start done s)

theorem busStep_resetCall {s : State} (hc : s.cst = .setup ∨ s.cst = .shuttingDown) :
    BusStep s (callStep .lifecycle startReset advanceLpc s) :=
  .call _ _ _ (hc.imp_right .inl) (fun _ => ⟨rfl, rfl⟩) (fun _ => ⟨rfl, rfl, rfl⟩)

theorem busStep_showCall {s : State} (p : Byte) (hc : s.cst = .rolling) :
    BusStep s (callStep .roll (startFrame p) advanceRpc s) :=
  .call _ _ _ (.inr (.inr hc)) (fun _ => ⟨rfl, rfl⟩) (fun _ => ⟨rfl, rfl, rfl⟩)

theorem busStep_agentStep {s t : State} (h : AgentStep s t) : BusStep s t := by
  cases h with
  | setup hc =>
    unfold setupStep
    split
    · exact busStep_resetCall (.inl hc)
    · exact .quiet rfl rfl
    · exact .quiet rfl rfl
  | shutdown hc =>
    unfold shutdownStep
    split
    · exact .quiet rfl rfl
    · exact busStep_resetCall (.inr hc)
    · exact .quiet rfl rfl
  | roll hc =>
    unfold rollStep
    cases rollAction s.rpc with
    | showSpin | showFinal | blank => exact busStep_showCall _ hc
    | _ => exact .quiet rfl rfl
  | _ => exact .quiet rfl rfl

theorem duringCall_signals {start : State → State} (h : ∀ u, signals (start u) = signals u)
    (s : State) : signals (duringCall start s) = signals s := by
  unfold duringCall
  split
  · exact h s
  · rfl

/-- A step of an agent, or an event, is at most one line write (R61, R150). -/
theorem lineAction_agentStep {s t : State} (h : AgentStep s t) : LineAction s t := by
  cases busStep_agentStep h with
  | quiet e _ => exact .none e
  | call c start done _ hstart hdone =>
    have hs := duringCall_signals (fun u => (hstart u).1) s
    have hstep := lineAction_displayStep c (duringCall start s)
    obtain ⟨-, e⟩ | ⟨-, e⟩ := callStep_cases c start done s <;> rw [e]
    · exact hstep.congr hs rfl rfl
    · obtain ⟨hsig, -, hg⟩ := hdone (displayStep c (duringCall start s))
      exact hstep.congr hs hsig hg

/-- No agent and no event marks the run (R220, R225). -/
theorem agentStep_faulted {s t : State} (h : AgentStep s t) : t.faulted = s.faulted := by
  cases busStep_agentStep h with
  | quiet _ e => exact e
  | call c start done _ hstart hdone =>
    exact callStep_field (·.faulted) c start done s (by simp) (fun u => (hstart u).2)
      (fun u => (hdone u).2.1)

/-- Where no agent calls display operations, agents and events leave the lines alone (R74, R171). -/
theorem agentStep_signals {s t : State} (h : AgentStep s t)
    (hc : s.cst = .uninit ∨ s.cst = .idle ∨ s.cst = .halted) : signals t = signals s := by
  cases busStep_agentStep h with
  | quiet e _ => exact e
  | call _ _ _ hcall => rcases hc with hc | hc | hc <;> simp [hc] at hcall

/-! ## What an executed operation does, by its kind -/

/-- `ExecStep` with the operation remembered: what `i` does where it goes on, and whether it meets the
condition X5 (R225). -/
inductive OpStep (i : Instr) (s : State) : State → Prop
  | agent {t : State} : conditionOf i s ≠ some .cutFrame → AgentStep s t → OpStep i s t
  | line (l : Line) (v : Bool) : conditionOf i s ≠ some .cutFrame → OpStep i s (lineWrite l v s)
  | cut (l : Line) (v : Bool) : conditionOf i s = some .cutFrame → OpStep i s (cutFrame l v s)
  | wait (d : Duration) : conditionOf i s ≠ some .cutFrame → OpStep i s (await .harness d s)
  | call {t : State} : conditionOf i s ≠ some .cutFrame → isDisplayCall i = true →
      controlView t = controlView s → OpStep i s t
  | construct (c : SuppliedConfig) : conditionOf i s ≠ some .cutFrame → i = .poweron c →
      OpStep i s (construct (Config.resolve c) s)

theorem opStep_line {i : Instr} {l : Line} {v : Bool} {s t : State} (hi : lineOf i = some (l, v))
    (h : exec i s = .next t) : OpStep i s t := by
  have hcond : conditionOf i s = some .cutFrame ↔
      s.sact = true ∧ dueMicroOp s ≠ some (.write l v) := by
    rw [conditionOf_of_lineOf hi, lineCondition_cutFrame_iff, cutsFrame_iff]
  rw [exec_of_lineOf hi] at h
  by_cases hd : dueMicroOp s = some (.write l v)
  · rw [lineOperation_of_due hd] at h
    cases h
    exact .agent (by simp [hcond, hd]) (callerStep_agentStep s)
  · rw [lineOperation_of_not_due hd] at h
    cases h
    split
    case isTrue hs => exact .cut l v (hcond.mpr ⟨hs, hd⟩)
    case isFalse hs => exact .line l v (by simp [hcond, hs])

theorem opStep_own {i : Instr} {s t : State} (hi : isOwn i = true) (h : exec i s = .next t) :
    OpStep i s t := by
  obtain ⟨u, e, ha⟩ := exec_own_cases i s hi
  rw [h] at e
  cases e
  exact .agent (conditionOf_of_not_lineOf (not_lineOf_of_isOwn hi) s) ha

theorem opStep_displayCall {i : Instr} {f : State → State} {s t : State}
    (hi : isDisplayCall i = true) (hl : lineOf i = none)
    (hf : ∀ u, controlView (f u) = controlView u) (h : callDisplay f s = .next t) :
    OpStep i s t := by
  refine .call (conditionOf_of_not_lineOf hl s) hi ?_
  unfold callDisplay at h
  split at h
  · cases h; rfl
  · cases h; exact hf s

theorem opStep_wait {d : Duration} {s t : State} (h : exec (.wait d) s = .next t) :
    OpStep (.wait d) s t := by
  have hcond : conditionOf (.wait d) s ≠ some .cutFrame := conditionOf_of_not_lineOf rfl s
  simp only [exec, execWait] at h
  split at h
  · cases h
  · split at h
    · cases h; exact .agent hcond (callerStep_agentStep s)
    · cases h; exact .wait d hcond

theorem opStep_poweron {c : SuppliedConfig} {s t : State} (h : exec (.poweron c) s = .next t) :
    OpStep (.poweron c) s t := by
  have hcond : conditionOf (.poweron c) s ≠ some .cutFrame := conditionOf_of_not_lineOf rfl s
  cases hlegal : (Config.resolve c).legal with
  | false =>
    obtain ⟨r, hr⟩ := exec_poweron_of_illegal hlegal s
    simp [hr] at h
  | true =>
    rw [exec_poweron_of_legal hlegal] at h
    cases h
    split
    · exact .agent hcond .same
    · exact .construct c hcond rfl

/-- Every operation that goes on does one of these. -/
theorem exec_opStep {i : Instr} {s t : State} (h : exec i s = .next t) : OpStep i s t := by
  cases i with
  | dataLo | dataHi | clkLo | clkHi | latLo | latHi => exact opStep_line rfl h
  | wait => exact opStep_wait h
  | shiftout | clear | showdigit =>
    exact opStep_displayCall rfl rfl (sendFrame_controlView _ _) h
  | reset => exact opStep_displayCall rfl rfl (resetCall_controlView .harness Config.blank) h
  | poweron => exact opStep_poweron h
  | setup | tick | press | release | term | roll | shutdown => exact opStep_own rfl h

/-! ## A step that is at most one line write -/

/-- A display operation of the controller holds a scripted one, so what a single step executes is
neither that nor a construction (R129; log entries 8, 15). -/
theorem singleStep_executed {s : State} {w : OpWord} {rest : List OpWord} {i : Instr}
    (h : singleStep s) (hw : s.script = w :: rest) (hd : decode w = .ok i)
    (hheld : held i s = false) : isDisplayCall i = false ∧ ∀ c, i ≠ .poweron c := by
  obtain ⟨hcall, hpower⟩ := h w rest i hw hd
  refine ⟨?_, hpower⟩
  by_contra hdisp
  have hdisp : isDisplayCall i = true := by simpa using hdisp
  simp [held, waitingStep, hdisp, hcall hdisp] at hheld

theorem lineAction_opStep {i : Instr} {s t : State} (h : OpStep i s t)
    (hdisp : isDisplayCall i = false) (hpower : ∀ c, i ≠ .poweron c) : LineAction s t := by
  cases h with
  | agent _ ha => exact lineAction_agentStep ha
  | line l v => exact lineAction_lineWrite l v s
  | cut l v => exact lineAction_cutFrame l v s
  | wait => exact .none rfl
  | call _ hi => simp [hi] at hdisp
  | construct c _ hi => exact absurd hi (hpower c)

theorem lineAction_step {s t : State} (h : singleStep s) (hstep : step s = .next t) :
    LineAction s t := by
  obtain ⟨w, rest, i, hw, hd, ⟨-, ha⟩ | ⟨u, hheld, he, -, rfl⟩⟩ | ⟨-, ha⟩ := step_cases s t hstep
  · exact lineAction_agentStep ha
  · obtain ⟨hdisp, hpower⟩ := singleStep_executed h hw hd hheld
    exact (lineAction_opStep (exec_opStep he) hdisp hpower).congr rfl rfl rfl
  · exact (lineAction_agentStep ha).congr rfl rfl rfl

/-- Settles O50: a single step is at most one line write, and that shifts at a rising clock only. -/
theorem bufferChangesOnlyAtClockEdge : Obligations.BufferChangesOnlyAtClockEdge := by
  unfold Obligations.BufferChangesOnlyAtClockEdge
  exact fun s t h hstep _ ht => (lineAction_step h hstep).sr_eq ht

/-- Settles O51: a single step is at most one line write, and that copies at a rising latch only. -/
theorem outputsChangeOnlyAtLatchEdge : Obligations.OutputsChangeOnlyAtLatchEdge := by
  unfold Obligations.OutputsChangeOnlyAtLatchEdge
  exact fun s t h hstep _ ht => (lineAction_step h hstep).q_eq ht

/-! ## Which agent drives the lines -/

/-- In `ROLLING` the lifecycle agent only sleeps (R171). -/
theorem lifecycleMove_rolling {stop : Bool} {s t : State} (hc : s.cst = .rolling)
    (h : makeMove (.lifecycle stop) s = .next t) :
    t = s ∨ t = await .lifecycle s.cfg.tick s := by
  have hstop : shutdownEnabled s = false := by simp [shutdownEnabled, hc]
  have htick : exec .tick s = .next (await .lifecycle s.cfg.tick s) := by
    simp [exec, execTick, tickEnabled, hc]
  cases hb : s.built with
  | false => exact .inl (by simpa [makeMove, lifecycleMove, hb, eq_comm] using h)
  | true => exact .inr (by simpa [makeMove, lifecycleMove, hb, hstop, hc, htick, eq_comm] using h)

/-- Every move but these leaves the lines alone (R74, R171). -/
theorem makeMove_signals {m : Move} {s t : State} (h : makeMove m s = .next t)
    (hlife : ∀ stop, m = .lifecycle stop → s.cst ≠ .setup ∧ s.cst ≠ .shuttingDown)
    (hroll : m = .roll → s.cst ≠ .rolling) : signals t = signals s := by
  cases m with
  | lifecycle stop =>
    obtain ⟨hsetup, hdown⟩ := hlife stop rfl
    by_cases hc : s.cst = .rolling
    · obtain rfl | rfl := lifecycleMove_rolling hc h <;> rfl
    · obtain ⟨u, e, ha⟩ := makeMove_cases (.lifecycle stop) s
      rw [h] at e
      cases e
      exact agentStep_signals ha (by cases hs : s.cst <;> simp_all)
  | roll =>
    cases h
    rw [if_neg (hroll rfl)]
  | press => cases h; split <;> rfl
  | release => cases h; rfl
  | term => cases h; rfl

/-- In `ROLLING` every move but the roll agent's, its press included, leaves `BUSY` alone (R74). -/
theorem makeMove_busy {m : Move} {s t : State} (h : makeMove m s = .next t) (hc : s.cst = .rolling)
    (hroll : m ≠ .roll) (hpress : m ≠ .press) : t.busy = s.busy := by
  cases m with
  | lifecycle stop => obtain rfl | rfl := lifecycleMove_rolling hc h <;> rfl
  | roll => exact absurd rfl hroll
  | press => exact absurd rfl hpress
  | release => cases h; rfl
  | term => cases h; rfl

/-- In a run of the block itself the lines stand still where no agent calls display operations (R74). -/
theorem step_own_signals {s t : State} (ho : ownScript s) (h : step s = .next t)
    (hc : s.cst = .uninit ∨ s.cst = .idle ∨ s.cst = .halted) : signals t = signals s := by
  obtain ⟨-, r, n, u, ha, e⟩ := step_own_cases ho h
  have hu : signals u = signals s := agentStep_signals (s := { s with script := r, free := n }) ha hc
  simp only [lineView, frameView, Prod.mk.injEq] at e
  simpa [signals, e] using hu

/-- Settles O52: move by move, and by what a step of the block, and a single step, is. -/
theorem linesDrivenByOneAgent : Obligations.LinesDrivenByOneAgent := by
  unfold Obligations.LinesDrivenByOneAgent
  refine fun s t => ⟨fun m h => ⟨fun hline => ?_, fun hc hbusy => ?_⟩, fun h ho hc => ?_,
    fun h hsingle => (lineAction_step hsingle h).lines_kept⟩
  · by_contra hnone
    have hkept : signals t = signals s :=
      makeMove_signals h (by rintro stop rfl; simpa using hnone) (by rintro rfl; simpa using hnone)
    simp_all [signals]
  · by_contra hnone
    rw [not_or] at hnone
    exact hbusy (makeMove_busy h hc hnone.1 hnone.2)
  · have hkept := step_own_signals ho h hc
    simp only [signals, Prod.mk.injEq] at hkept
    obtain ⟨hd, hck, hl, -, -⟩ := hkept
    exact ⟨hd, hck, hl⟩

/-! ## What marks the run faulted -/

/-- An operation that goes on marks the run exactly where it cuts a frame (R225). -/
theorem exec_faulted {i : Instr} {s t : State} (h : exec i s = .next t) :
    t.faulted = (s.faulted || decide (conditionOf i s = some .cutFrame)) := by
  cases exec_opStep h with
  | agent hcond ha => simp [hcond, agentStep_faulted ha]
  | line l v hcond => simp [hcond]
  | cut l v hcond => simp [hcond]
  | wait d hcond => simp [hcond]
  | call hcond _ hview =>
    simp only [controlView, Prod.mk.injEq] at hview
    simp [hcond, hview]
  | construct c hcond => simp [hcond, construct]

/-- A step leaves the mark alone or sets it, and the block's own operations do not set it (R134, U1). -/
theorem step_faulted {s t : State} (h : step s = .next t) :
    t.faulted = s.faulted ∨ (t.faulted = true ∧ ¬ ownScript s) := by
  obtain ⟨w, rest, i, hw, hd, ⟨-, ha⟩ | ⟨u, -, he, -, rfl⟩⟩ | ⟨-, ha⟩ := step_cases s t h
  · exact .inl (agentStep_faulted ha)
  · by_cases hcut : conditionOf i { s with script := rest } = some .cutFrame
    · refine .inr ⟨by simp [exec_faulted he, hcut], fun ho => ?_⟩
      obtain ⟨j, hj, hown⟩ := ho w (by simp [hw])
      obtain rfl : j = i := by simpa [hd] using hj.symm
      exact conditionOf_of_not_lineOf (not_lineOf_of_isOwn hown) _ hcut
    · exact .inl (by simp [exec_faulted he, hcut])
  · exact .inl (agentStep_faulted (s := { s with free := s.free + 1 }) ha)

/-- Settles O54: only a line write inside a frame that is not the frame's own meets X5, and it alone
marks the run. -/
theorem faultedOnlyByCutFrame : Obligations.FaultedOnlyByCutFrame := by
  unfold Obligations.FaultedOnlyByCutFrame
  refine ⟨fun i s => ⟨?_, fun t => exec_faulted, fun f => nomatch f⟩,
    fun s t h => ⟨fun hs => ?_, fun ho => ?_⟩⟩
  · simp only [conditionOf_cutFrame_iff, lineOf_eq_some_iff, cutsFrame_iff]
  · obtain e | ⟨e, -⟩ := step_faulted h
    · exact e.trans hs
    · exact e
  · exact (step_faulted h).resolve_right fun hmarked => hmarked.2 ho

end Sys2Proof.Safety

namespace Sys2Proof

open Sys2Proof.Machine

/-! ## The decoder and the encoder are inverse to each other -/

/-- The decoder reads back the word of every operation (R99). -/
@[simp] theorem decode_encode (i : Instr) : decode (encode i) = .ok i := by
  cases i <;> rfl

/-- A word is that of an operation where both its parts are. -/
theorem encode_eq_of_parts {w : OpWord} {i : Instr} {n : Nat} {o : Operand}
    (hi : encode i = ⟨BitVec.ofNat 8 n, o⟩) (hc : w.code.toNat = n) (ho : w.operand = o) :
    encode i = w := by
  subst hc ho
  rw [hi, BitVec.ofNat_toNat, BitVec.setWidth_eq]

theorem decodeBare_eq_ok {i j : Instr} {o : Operand} (h : decodeBare i o = .ok j) :
    o = .none ∧ j = i := by
  cases o <;> cases h
  exact ⟨rfl, rfl⟩

theorem decodeWait_eq_ok {i : Instr} {o : Operand} (h : decodeWait o = .ok i) :
    ∃ d, o = .duration d ∧ i = .wait d := by
  cases o <;> cases h
  exact ⟨_, rfl, rfl⟩

theorem decodeShiftout_eq_ok {i : Instr} {o : Operand} (h : decodeShiftout o = .ok i) :
    ∃ p, o = .pattern p ∧ i = .shiftout p := by
  cases o <;> cases h
  exact ⟨_, rfl, rfl⟩

theorem decodeShowdigit_eq_ok {i : Instr} {o : Operand} (h : decodeShowdigit o = .ok i) :
    ∃ n, o = .digit n ∧ i = .showdigit n := by
  cases o <;> cases h
  exact ⟨_, rfl, rfl⟩

theorem decodePoweron_eq_ok {i : Instr} {o : Operand} (h : decodePoweron o = .ok i) :
    ∃ c, o = .configuration c ∧ i = .poweron c := by
  cases o <;> cases h
  exact ⟨_, rfl, rfl⟩

/-- A word that decodes is the word of what it decodes to: each code has one operation, and the
operand beside it is kept (R99). -/
theorem encode_of_decode {w : OpWord} {i : Instr} (h : decode w = .ok i) : encode i = w := by
  unfold decode at h
  split at h
  case h_7 hc =>
    obtain ⟨d, ho, rfl⟩ := decodeWait_eq_ok h
    exact encode_eq_of_parts rfl hc ho
  case h_8 hc =>
    obtain ⟨p, ho, rfl⟩ := decodeShiftout_eq_ok h
    exact encode_eq_of_parts rfl hc ho
  case h_10 hc =>
    obtain ⟨n, ho, rfl⟩ := decodeShowdigit_eq_ok h
    exact encode_eq_of_parts rfl hc ho
  case h_12 hc =>
    obtain ⟨c, ho, rfl⟩ := decodePoweron_eq_ok h
    exact encode_eq_of_parts rfl hc ho
  case h_20 => split at h <;> cases h
  all_goals
    obtain ⟨ho, rfl⟩ := decodeBare_eq_ok h
    exact encode_eq_of_parts rfl (by assumption) ho

/-- Settles O2. -/
theorem encodeOfDecode : Obligations.EncodeOfDecode := by
  unfold Obligations.EncodeOfDecode
  exact fun _ _ => encode_of_decode

/-- Settles O1. -/
theorem decodeOfEncode : Obligations.DecodeOfEncode := by
  unfold Obligations.DecodeOfEncode
  exact decode_encode

/-- A table row whose word is that of an operation is read as that operation (log entry 2). -/
theorem decodeTableWord_of_encode {n w : Nat} {i : Instr} (h : tableWord w = encode i) :
    decodeTableWord n w = some i := by
  rw [decodeTableWord, h, decode_encode]

/-- Settles O3: the eight rows, with operands of zeros, are the words of the eight operations. -/
theorem tableCodesDecode : Obligations.TableCodesDecode := by
  unfold Obligations.TableCodesDecode
  refine ⟨?_, ?_, ?_, ?_, ?_, ?_, ?_, ?_⟩ <;> exact decodeTableWord_of_encode rfl

/-! ## Words that name no operation -/

/-- A code of R100 matches no row of R99's table, and is one of five bits. -/
theorem decode_of_reservedCode {w : OpWord}
    (h : w.code.toNat = 0b00111 ∨ (0b01100 ≤ w.code.toNat ∧ w.code.toNat ≤ 0b01111) ∨
      (0b11000 ≤ w.code.toNat ∧ w.code.toNat ≤ 0b11111)) :
    decode w = .error .reservedCode := by
  have hlt : w.code.toNat < 32 := by omega
  unfold decode
  split
  case h_20 => exact if_pos hlt
  all_goals omega

/-- A step that finds a word that names no operation is refused (R100, D17). -/
theorem step_of_undecodable {s : State} {w : OpWord} {rest : List OpWord} {e : DecodeError}
    (hs : s.script = w :: rest) (hd : decode w = .error e) :
    step s = .refused (.undecodable e) := by
  simp only [step, advance, hs, hd]

/-- Settles O4. -/
theorem unassignedCodesRefused : Obligations.UnassignedCodesRefused := by
  unfold Obligations.UnassignedCodesRefused
  intro w rest s hcode hs
  have hd : decode w = .error .reservedCode := decode_of_reservedCode hcode
  exact ⟨hd, step_of_undecodable hs hd⟩

end Sys2Proof

namespace Sys2Proof.Safety

open Sys2Proof.Machine

/-! ## The level of a bit on the data line -/

/-- A bit of a pattern as the spec computes it (R97). -/
theorem patternBit_eq_shift (p : Byte) (i : Nat) :
    patternBit p i = decide ((p.toNat >>> i) &&& 1 = 1) := by
  rw [patternBit, BitVec.getLsbD, Nat.testBit_eq_decide_div_mod_eq, Nat.shiftRight_eq_div_pow,
    Nat.and_one_is_mod]

/-- Settles O15: the data position of bit `i` writes that bit of the pattern. -/
theorem dataLevelOfBit : Obligations.DataLevelOfBit := by
  unfold Obligations.DataLevelOfBit
  refine ⟨fun p k i hi hk => ?_, by decide⟩
  rw [frameOp_data p k i hi hk, patternBit_eq_shift]

/-! ## Which operations are refused -/

theorem lineOperation_next (l : Line) (v : Bool) (s : State) :
    ∃ t, lineOperation l v s = .next t := by
  by_cases h : dueMicroOp s = some (.write l v)
  · exact ⟨_, lineOperation_of_due h⟩
  · exact ⟨_, lineOperation_of_not_due h⟩

theorem callDisplay_next (run : State → State) (s : State) : ∃ t, callDisplay run s = .next t := by
  unfold callDisplay
  split <;> exact ⟨_, rfl⟩

theorem exec_wait_of_illegal {d : Duration} (h : Duration.legal d = false) (s : State) :
    exec (.wait d) s = .refused .negativeDuration := by
  simp [exec, execWait, h]

/-- A wait of a legal duration is the frame's own where one of just that duration is due, else its
caller's (R127; log entry 14). -/
theorem exec_wait_of_legal {d : Duration} (h : Duration.legal d = true) (s : State) :
    exec (.wait d) s = .next (if dueMicroOp s = some .wait ∧ d = s.cfg.bitDelay then callerStep s
      else await .harness d s) := by
  simp only [exec, execWait, h, Bool.not_true, Bool.false_eq_true, if_false]
  split <;> rfl

/-- With a legal operand no operation is refused (R101, R220). -/
theorem exec_next_of_wf {i : Instr} (h : i.wf = true) (s : State) : ∃ t, exec i s = .next t := by
  cases i with
  | wait d => exact ⟨_, exec_wait_of_legal h s⟩
  | poweron c => exact ⟨_, exec_poweron_of_legal h s⟩
  | dataLo | dataHi | clkLo | clkHi | latLo | latHi => exact lineOperation_next _ _ s
  | shiftout | clear | showdigit => exact callDisplay_next _ s
  | reset =>
    exact callDisplay_next (fun u => linesOff (sendFrame .harness Config.blank (linesOff u))) s
  | setup | tick | press | release | term | roll | shutdown => exact ⟨_, rfl⟩

/-- Only `WAIT` and `POWERON` have illegal operands, and they are refused (D26, U5; log entry 18). -/
theorem exec_refused_of_not_wf {i : Instr} (h : i.wf = false) (s : State) :
    ∃ r, exec i s = .refused r := by
  cases i with
  | wait d => exact ⟨_, exec_wait_of_illegal h s⟩
  | poweron c => exact exec_poweron_of_illegal h s
  | _ => cases h

/-- Settles O55: of a legal operand the operation goes on, of an illegal one it is refused. -/
theorem refusedIffIllFormed : Obligations.RefusedIffIllFormed := by
  unfold Obligations.RefusedIffIllFormed
  refine fun i s => ⟨?_, fun h => exec_refused_of_not_wf h s⟩
  rintro ⟨r, hr⟩
  by_contra hwf
  obtain ⟨t, ht⟩ := exec_next_of_wf (by simpa using hwf) s
  rw [ht] at hr
  cases hr

end Sys2Proof.Safety

namespace Sys2Proof.Safety

open Sys2Proof.Machine

/-! ## A display call that is held -/

/-- R129: while a display operation is in flight a requested one does nothing. -/
theorem exec_displayCall_of_inFlight {i : Instr} {s : State} (hi : isDisplayCall i = true)
    (hf : inFlight s = true) : exec i s = .next s := by
  cases i with
  | shiftout | clear | showdigit | reset =>
    simp [exec, execShiftout, execClear, execShowdigit, execReset, callDisplay, hf]
  | _ => cases hi

/-- While a display call is held the calling agent goes on (log entry 15). -/
theorem step_of_heldCall {s : State} {w : OpWord} {rest : List OpWord} {i : Instr}
    (hs : s.script = w :: rest) (hd : decode w = .ok i) (hi : isDisplayCall i = true)
    (hf : inFlight s = true) : step s = .next (callerStep s) := by
  simp [step, advance, waitingStep, hs, hd, hi, hf]

theorem callerStep_script (s : State) : (callerStep s).script = s.script :=
  agentStep_script s _ (callerStep_agentStep s)

/-- Settles O7: the call is held, and the calling agent writes no script. -/
theorem stepHoldsDisplayCall : Obligations.StepHoldsDisplayCall := by
  unfold Obligations.StepHoldsDisplayCall
  intro s w rest i hs hd hi hf
  exact ⟨exec_displayCall_of_inFlight hi hf, step_of_heldCall hs hd hi hf,
    (callerStep_script s).trans hs⟩

/-! ## How long the hold lasts -/

/-- The writes left of a `LINES_OFF` when the one of this line is due (R154). -/
def lineWritesLeft : Line → Nat
  | .data => 3
  | .clock => 2
  | .latch => 1

/-- The micro-steps left of the display operation of the controller in flight: of the 53 of a
`RESET` or the 47 of a frame (R130, R153). -/
def microStepsLeft (s : State) : Nat :=
  match s.flight with
  | .idle => 0
  | .linesOff l closing => lineWritesLeft l + if closing then 0 else 50
  | .frame inReset => (if s.sact then 47 - s.spc.val else 47) + if inReset then 3 else 0

theorem microStepsLeft_linesOff {s : State} {l : Line} {b : Bool} (h : s.flight = .linesOff l b) :
    microStepsLeft s = lineWritesLeft l + if b then 0 else 50 := by
  simp only [microStepsLeft, h]

theorem microStepsLeft_frame {s : State} {b : Bool} (h : s.flight = .frame b) :
    microStepsLeft s = (if s.sact then 47 - s.spc.val else 47) + if b then 3 else 0 := by
  simp only [microStepsLeft, h]

theorem microStepsLeft_le (s : State) : microStepsLeft s ≤ 53 := by
  cases hf : s.flight with
  | idle => simp [microStepsLeft, hf]
  | linesOff l b => rw [microStepsLeft_linesOff hf]; cases l <;> cases b <;> decide
  | frame b => rw [microStepsLeft_frame hf]; split <;> split <;> omega

theorem microStepsLeft_afterLineOff {s : State} {l : Line} {b : Bool}
    (h : s.flight = afterLineOff l b) :
    microStepsLeft s < lineWritesLeft l + if b then 0 else 50 := by
  cases l with
  | data => rw [microStepsLeft_linesOff h]; simp [lineWritesLeft]
  | clock => rw [microStepsLeft_linesOff h]; simp [lineWritesLeft]
  | latch =>
    cases b with
    | true => simp [microStepsLeft, h, afterLineOff, lineWritesLeft]
    | false => rw [microStepsLeft_frame h]; split <;> simp [lineWritesLeft]; omega

/-- A frame that is only due has all its 47 micro-steps left, like the one entered (R153). -/
theorem microStepsLeft_of_dueFrame {s : State} {b : Bool} (h : s.flight = .frame b) :
    microStepsLeft s = 47 - (enterDueFrame s).spc.val + if b then 3 else 0 := by
  rw [microStepsLeft_frame h]
  cases hs : s.sact <;> simp [enterDueFrame, hs]

/-- Each micro-step leaves fewer (R130, R153). -/
theorem microStepsLeft_displayStep (c : Caller) {s : State} (h : s.flight ≠ .idle) :
    microStepsLeft (displayStep c s) < microStepsLeft s := by
  cases hf : s.flight with
  | idle => exact absurd hf h
  | linesOff l b =>
    rw [microStepsLeft_linesOff hf, displayStep_linesOff c s l b hf]
    exact microStepsLeft_afterLineOff rfl
  | frame b =>
    rw [microStepsLeft_of_dueFrame hf, displayStep_frame c s b hf]
    have hlt := (enterDueFrame s).spc.isLt
    by_cases hlast : (enterDueFrame s).spc.val = 46
    · cases b <;> simp [microStepsLeft, hlast, lineWritesLeft]
    · have hbump := bump_val (enterDueFrame s).spc (by omega)
      rw [microStepsLeft_frame (b := b) (by simp [hlast])]
      simp [hlast, hbump]
      omega

/-- The calling agent's step while its display operation is in flight is the next micro-step; only
the position of its program is written beside (R150). -/
theorem microStepsLeft_callStep (c : Caller) {start done : State → State} {s : State}
    (hf : s.flight ≠ .idle) (hdone : ∀ u, microStepsLeft (done u) = microStepsLeft u) :
    microStepsLeft (callStep c start done s) < microStepsLeft s := by
  have hlt := microStepsLeft_displayStep c hf
  have hs : duringCall start s = s := if_neg hf
  obtain ⟨-, e⟩ | ⟨-, e⟩ := callStep_cases c start done s <;> rw [e, hs]
  · exact hlt
  · rw [hdone]; exact hlt

/-- The display operation in flight is the calling agent's, and its step leaves fewer micro-steps.
-/
theorem microStepsLeft_callerStep {s : State} (h : ControlInv s) (hf : s.flight ≠ .idle) :
    microStepsLeft (callerStep s) < microStepsLeft s := by
  have hreset : microStepsLeft (callStep .lifecycle startReset advanceLpc s) < microStepsLeft s :=
    microStepsLeft_callStep _ hf fun _ => rfl
  have hshow (p : Byte) :
      microStepsLeft (callStep .roll (startFrame p) advanceRpc s) < microStepsLeft s :=
    microStepsLeft_callStep _ hf fun _ => rfl
  obtain ⟨hc, hl, -⟩ | ⟨hc, hl, -⟩ | ⟨hc, hcall, -⟩ := h.flight_called hf
  · simpa only [callerStep, hc, setupStep, hl] using hreset
  · simpa only [callerStep, hc, shutdownStep, hl] using hreset
  · simp only [callerStep, hc, rollStep]
    cases ha : rollAction s.rpc with
    | showSpin | showFinal | blank => exact hshow _
    | _ => simp [ha, isCallAction] at hcall

theorem ControlInv.inFlight_iff {s : State} (h : ControlInv s) :
    inFlight s = true ↔ s.flight ≠ .idle := by
  by_cases hf : s.flight = .idle
  · simp [inFlight, hf, h.sact_of_flight_idle hf]
  · simp [inFlight, hf]

theorem run_succ_of_step {s t : State} (h : step s = .next t) (k : Nat) :
    Host.Core.run Sys2Proof.core (k + 1) s = Host.Core.run Sys2Proof.core k t := by
  have hcore : Sys2Proof.core.step s = .next t := h
  simp only [Host.Core.run, hcore]

/-- A held display call is free to run once no micro-step is left. -/
theorem hold_lifted_within {w : OpWord} {rest : List OpWord} {i : Instr} (hd : decode w = .ok i)
    (hi : isDisplayCall i = true) (n : Nat) (s : State) (h : ControlInv s)
    (hs : s.script = w :: rest) (hn : microStepsLeft s ≤ n) :
    ∃ k t, k ≤ n ∧ Host.Core.run Sys2Proof.core k s = .next t ∧ inFlight t = false ∧
      t.script = w :: rest := by
  by_cases hf : inFlight s = true
  · have hless := microStepsLeft_callerStep h (h.inFlight_iff.mp hf)
    cases n with
    | zero => omega
    | succ n =>
      obtain ⟨k, t, hk, hrun, ht⟩ := hold_lifted_within hd hi n (callerStep s)
        (controlInv_agentStep h (callerStep_agentStep s)) ((callerStep_script s).trans hs)
        (by omega)
      refine ⟨k + 1, t, by omega, ?_, ht⟩
      rw [run_succ_of_step (step_of_heldCall hs hd hi hf), hrun]
  · exact ⟨0, s, by omega, rfl, by simpa using hf, hs⟩

/-- Settles O8: a display operation of the controller has at most 53 micro-steps left. -/
theorem holdIsLifted : Obligations.HoldIsLifted := by
  unfold Obligations.HoldIsLifted
  intro s w rest i h hs hd hi
  exact hold_lifted_within hd hi 53 s h hs (microStepsLeft_le s)

/-! ## Waits -/

theorem not_due_of_not_inFlight {s : State} (h : inFlight s = false) (m : MicroOp) :
    dueMicroOp s ≠ some m := by
  intro hd
  simp [inFlight_of_due hd] at h

/-- Settles O13: with nothing in flight no wait is due, so it is its caller's. -/
theorem waitChangesNoRegister : Obligations.WaitChangesNoRegister := by
  unfold Obligations.WaitChangesNoRegister
  intro d s hd hf
  rw [exec_wait_of_legal ((Duration.legal_iff d).mpr hd),
    if_neg fun h => not_due_of_not_inFlight hf _ h.1]
  rfl

/-- Settles O14. -/
theorem waitInFlight : Obligations.WaitInFlight := by
  unfold Obligations.WaitInFlight
  intro d s
  refine ⟨fun hd hdue hdelay => ?_, fun hd hother => ?_, fun hd => ?_⟩
  · rw [exec_wait_of_legal ((Duration.legal_iff d).mpr hd), if_pos ⟨hdue, hdelay⟩]
  · rw [exec_wait_of_legal ((Duration.legal_iff d).mpr hd), if_neg hother]
    rfl
  · have hillegal : ¬ Duration.legal d = true := fun h => hd.not_ge ((Duration.legal_iff d).mp h)
    exact exec_wait_of_illegal (by simpa using hillegal) s

/-! ## Events inside a display operation -/

/-- Settles O43: in `UNINIT` and in `IDLE`, where a shutdown and a press are accepted, no display
operation of the controller is in flight. -/
theorem eventsDoNotDisturbFrame : Obligations.EventsDoNotDisturbFrame := by
  unfold Obligations.EventsDoNotDisturbFrame
  intro s h hf
  have hcst : ¬ (s.cst = .uninit ∨ s.cst = .idle) := fun hc =>
    h.inFlight_iff.mp hf (h.quiet_of_uninit_or_idle hc).1
  have hpress : pressAccepted s = false := by
    by_contra hp
    have hp' : s.armed = true ∧ s.busy = false := by simpa [pressAccepted] using hp
    exact hcst (.inr (h.armed_not_busy_iff.mp hp'))
  have hshutdown : shutdownEnabled s = false := by
    simpa [shutdownEnabled] using fun _ => not_or.mp hcst
  refine ⟨?_, rfl, rfl, fun hc => ?_⟩
  · simp [exec, execPress, hpress]
  · simp [exec, execShutdown, hc, hshutdown]

end Sys2Proof.Safety

namespace Sys2Proof.Safety

open Sys2Proof.Machine

/-! ## Where each micro-step stands in the frame program -/

/-- The frame program of `p` writes level `v` to line `l` at position `k` (R130). -/
def WritesAt (p : Byte) (k : Nat) : Line → Bool → Prop
  | .data, v => ∃ i, i < 8 ∧ k = 2 + 5 * i ∧ p.getLsbD i = v
  | .clock, true => ∃ i, i < 8 ∧ k = 4 + 5 * i
  | .clock, false => ∃ i, i < 8 ∧ k = 6 + 5 * i
  | .latch, true => k = 43
  | .latch, false => k = 1 ∨ k = 45

theorem frameOp_write_iff (p : Byte) (k : Fin 47) (l : Line) (v : Bool) :
    frameOp p k = .write l v ↔ WritesAt p k.val l v := by
  constructor
  · intro h
    obtain e | ⟨e, hk⟩ | ⟨e, hk⟩ | ⟨i, hi, hk, e⟩ | ⟨i, hi, hk, e⟩ | ⟨i, hi, hk, e⟩ :=
      frameOp_cases p k <;> rw [h] at e <;> cases e
    · exact hk
    · exact hk
    · exact ⟨i, hi, hk, rfl⟩
    · exact ⟨i, hi, hk⟩
    · exact ⟨i, hi, hk⟩
  · obtain ⟨-, hlow1, -, hhigh, -, hlow45, -⟩ := frameOp_ends p
    intro h
    match l, v, h with
    | .data, v, ⟨i, hi, hk, hv⟩ => rw [frameOp_data p k i hi hk, patternBit, hv]
    | .clock, true, ⟨i, hi, hk⟩ => exact frameOp_clockHigh p k i hi hk
    | .clock, false, ⟨i, hi, hk⟩ => exact frameOp_clockLow p k i hi hk
    | .latch, true, hk => rwa [show k = 43 from Fin.ext hk]
    | .latch, false, .inl hk => rwa [show k = 1 from Fin.ext hk]
    | .latch, false, .inr hk => rwa [show k = 45 from Fin.ext hk]

/-- Settles O12. -/
theorem lineWritesDueInFrame : Obligations.LineWritesDueInFrame := by
  unfold Obligations.LineWritesDueInFrame
  exact fun p k => ⟨frameOp_write_iff p k .data true, frameOp_write_iff p k .data false,
    frameOp_write_iff p k .clock true, frameOp_write_iff p k .clock false,
    frameOp_write_iff p k .latch true, frameOp_write_iff p k .latch false⟩

/-- The positions of the waits of a frame (R130). -/
def isWaitPosition (k : Nat) : Bool :=
  if k < 42 then k % 5 = 0 || k % 5 = 3 else k % 2 = 0

theorem isWaitPosition_iff (k : Nat) :
    isWaitPosition k = true ↔ (k < 42 ∧ (k % 5 = 0 ∨ k % 5 = 3)) ∨ (42 ≤ k ∧ k % 2 = 0) := by
  unfold isWaitPosition
  split <;> simp <;> omega

theorem writesAt_of_not_wait (p : Byte) {k : Nat} (hk : k < 47) (h : ¬ isWaitPosition k = true) :
    ∃ l v, WritesAt p k l v := by
  rw [isWaitPosition_iff] at h
  obtain hlow | hhigh | hdata | hclk | hclk : (k = 1 ∨ k = 45) ∨ k = 43 ∨ (k % 5 = 2 ∧ k < 42) ∨
    (k % 5 = 4 ∧ k < 42) ∨ (k % 5 = 1 ∧ 2 ≤ k ∧ k < 42) := by omega
  · exact ⟨.latch, false, hlow⟩
  · exact ⟨.latch, true, hhigh⟩
  · exact ⟨.data, _, k / 5, by omega, by omega, rfl⟩
  · exact ⟨.clock, true, k / 5, by omega, by omega⟩
  · exact ⟨.clock, false, (k - 6) / 5, by omega, by omega⟩

theorem frameOp_wait_iff (p : Byte) (k : Fin 47) :
    frameOp p k = .wait ↔ isWaitPosition k.val = true := by
  constructor
  · intro h
    by_contra hpos
    obtain ⟨l, v, hw⟩ := writesAt_of_not_wait p k.isLt hpos
    rw [← frameOp_write_iff, h] at hw
    cases hw
  · rw [isWaitPosition_iff]
    intro hk
    obtain e | ⟨-, h⟩ | ⟨-, h⟩ | ⟨i, hi, h, -⟩ | ⟨i, hi, h, -⟩ | ⟨i, hi, h, -⟩ := frameOp_cases p k
    · exact e
    all_goals omega

/-! ## A frame after each of its micro-steps -/

/-- The state after `k` micro-steps of a frame of `p` (R128, R130). -/
def frameAfter (c : Caller) (p : Byte) (s : State) (k : Nat) : State :=
  (frameStep c)^[k] (beginFrame p s)

/-- The level of a line. -/
def level : Line → State → Bool
  | .data => State.data
  | .clock => State.clock
  | .latch => State.latch

theorem level_lineWrite (l l' : Line) (v : Bool) (s : State) :
    level l (lineWrite l' v s) = if l = l' then v else level l s := by
  cases l <;> cases l' <;> rfl

section
variable (c : Caller) (p : Byte) (s : State) {k : Nat}

theorem frameAfter_pat (k : Nat) : (frameAfter c p s k).pat = p :=
  iterate_field _ State.pat (by simp) k _

theorem frameAfter_cfg (k : Nat) : (frameAfter c p s k).cfg = s.cfg :=
  iterate_field _ State.cfg (by simp) k _

theorem frameAfter_garbled (k : Nat) : (frameAfter c p s k).garbled = (s.garbled && s.clock) :=
  iterate_field _ State.garbled (by simp) k _

/-- The effect of micro-step `k`, seen in what is neither `SPC` nor `SACT` (R130). -/
theorem frameAfter_succ {β : Type} (g : State → β)
    (hg : ∀ (u : State) (n : Fin 47) (b : Bool), g { u with spc := n, sact := b } = g u)
    (hk : k < 47) :
    g (frameAfter c p s (k + 1)) =
      g (microEffect c (frameOp p ⟨k, hk⟩) (frameAfter c p s k)) := by
  have hspc : (frameAfter c p s k).spc = ⟨k, hk⟩ :=
    Fin.ext (iterate_frameStep_spc c p s k (by omega))
  rw [frameAfter, Function.iterate_succ_apply', ← frameAfter, frameStep, hg, frameAfter_pat, hspc]

theorem level_frameAfter_of_write {l : Line} {v : Bool} (hk : k < 47) (h : WritesAt p k l v) :
    level l (frameAfter c p s (k + 1)) = v := by
  rw [frameAfter_succ c p s (level l) (by cases l <;> exact fun _ _ _ => rfl) hk,
    (frameOp_write_iff p ⟨k, hk⟩ l v).mpr h, microEffect, level_lineWrite, if_pos rfl]

theorem level_frameAfter_of_no_write {l : Line} (hk : k < 47) (h : ∀ v, ¬ WritesAt p k l v) :
    level l (frameAfter c p s (k + 1)) = level l (frameAfter c p s k) := by
  rw [frameAfter_succ c p s (level l) (by cases l <;> exact fun _ _ _ => rfl) hk]
  cases hm : frameOp p ⟨k, hk⟩ with
  | wait => cases l <;> rfl
  | write l' v =>
    have hne : l ≠ l' := fun e => h v (e ▸ (frameOp_write_iff p ⟨k, hk⟩ l' v).mp hm)
    rw [microEffect, level_lineWrite, if_neg hne]

/-- The data line holds the bit written last (R92). -/
theorem frameAfter_data (hk : k ≤ 47) : (frameAfter c p s k).data =
    if k ≤ 2 then s.data else p.getLsbD (min 7 ((k - 3) / 5)) := by
  induction k with
  | zero => rfl
  | succ k ih =>
    by_cases hpos : k < 42 ∧ k % 5 = 2
    · have hw : WritesAt p k .data _ := ⟨k / 5, by omega, by omega, rfl⟩
      rw [if_neg (by omega), show min 7 ((k + 1 - 3) / 5) = k / 5 by omega]
      exact level_frameAfter_of_write c p s hk hw
    · have hw (v : Bool) : ¬ WritesAt p k .data v := by rintro ⟨i, hi, rfl, -⟩; omega
      refine (level_frameAfter_of_no_write c p s hk hw).trans ((ih (by omega)).trans ?_)
      by_cases h2 : k ≤ 1
      · rw [if_pos (by omega), if_pos (by omega)]
      · rw [if_neg (by omega), if_neg (by omega)]; congr 1; omega

/-- The clock line: the level at entry until the first write of it, then high for the two
micro-steps after each clock-high (R130). -/
theorem frameAfter_clock (hk : k ≤ 47) : (frameAfter c p s k).clock =
    if k ≤ 4 then s.clock else decide (k ≤ 41 ∧ k % 5 ≤ 1) := by
  induction k with
  | zero => rfl
  | succ k ih =>
    by_cases hhigh : k < 42 ∧ k % 5 = 4
    · have hw : WritesAt p k .clock true := ⟨k / 5, by omega, by omega⟩
      rw [if_neg (by omega), decide_eq_true (by omega)]
      exact level_frameAfter_of_write c p s hk hw
    by_cases hlow : 2 ≤ k ∧ k < 42 ∧ k % 5 = 1
    · have hw : WritesAt p k .clock false := ⟨(k - 6) / 5, by omega, by omega⟩
      rw [if_neg (by omega), decide_eq_false (by omega)]
      exact level_frameAfter_of_write c p s hk hw
    have hw (v : Bool) : ¬ WritesAt p k .clock v := by
      cases v <;> rintro ⟨i, hi, rfl⟩ <;> omega
    refine (level_frameAfter_of_no_write c p s hk hw).trans ((ih (by omega)).trans ?_)
    by_cases h4 : k ≤ 3
    · rw [if_pos (by omega), if_pos (by omega)]
    · rw [if_neg (by omega), if_neg (by omega), decide_eq_decide]; omega

/-- The latch line: the level at entry until the first write of it, then high between micro-steps 43
and 45 only (R130). -/
theorem frameAfter_latch (hk : k ≤ 47) : (frameAfter c p s k).latch =
    if k ≤ 1 then s.latch else decide (k = 44 ∨ k = 45) := by
  induction k with
  | zero => rfl
  | succ k ih =>
    by_cases hhigh : k = 43
    · subst hhigh; exact level_frameAfter_of_write c p s (l := .latch) hk rfl
    by_cases hlow : k = 1 ∨ k = 45
    · rw [if_neg (by omega), decide_eq_false (by omega)]
      exact level_frameAfter_of_write c p s (l := .latch) hk hlow
    have hw (v : Bool) : ¬ WritesAt p k .latch v := by cases v <;> assumption
    refine (level_frameAfter_of_no_write c p s hk hw).trans ((ih (by omega)).trans ?_)
    by_cases h1 : k ≤ 0
    · rw [if_pos (by omega), if_pos (by omega)]
    · rw [if_neg (by omega), if_neg (by omega), decide_eq_decide]; omega

end

end Sys2Proof.Safety

namespace Sys2Proof.Safety

open Sys2Proof.Machine

/-! ## The connected register, the waits and the free values in a frame -/

/-- The contents `r` after the first `m` bits of `a` have been shifted in (R63, R66). -/
def shifted (a r : Byte) (m : Nat) : Byte := (a <<< (8 - m)) ||| (r >>> m)

/-- Bits above the old contents come from the pattern. -/
theorem shifted_bit (a r : Byte) {m j : Nat} (hm : m ≤ 8) (hj : j < 8) :
    (shifted a r m).getLsbD j = if j + m < 8 then r.getLsbD (j + m) else a.getLsbD (j + m - 8) := by
  by_cases h : j + m < 8
  · simp [shifted, h, show j < 8 - m by omega, Nat.add_comm m j]
  · have hr : r.getLsbD (m + j) = false := BitVec.getLsbD_of_ge _ _ (by omega)
    rw [if_neg h, shifted, BitVec.getLsbD_or, BitVec.getLsbD_shiftLeft, BitVec.getLsbD_ushiftRight,
      hr, show j - (8 - m) = j + m - 8 by omega]
    simp only [hj, show ¬ j < 8 - m by omega, decide_true, decide_false, Bool.not_false,
      Bool.true_and, Bool.or_false]

theorem shiftIn_shifted (a r : Byte) {m : Nat} (hm : m < 8) :
    shiftIn (a.getLsbD m) (shifted a r m) = shifted a r (m + 1) := by
  apply BitVec.eq_of_getLsbD_eq
  intro j hj
  rw [shiftIn_bit _ _ _ hj, shifted_bit a r (by omega) hj]
  by_cases h7 : j = 7
  · rw [if_pos h7, if_neg (by omega)]; congr 1; omega
  · rw [if_neg h7, shifted_bit a r (by omega) (by omega), show j + 1 + m = j + (m + 1) by omega]

/-- What the connected register holds once `n` bits of `p` have been clocked, in a frame entered
from `s`: entered with the clock high, the frame loses bit 0 (R66, R131). -/
def bufferAfter (p : Byte) (s : State) (n : Nat) : Byte :=
  shifted (p >>> s.clock.toNat) s.sr (n - s.clock.toNat)

theorem bufferAfter_succ (p : Byte) (s : State) {n : Nat} (hn : n < 8) :
    bufferAfter p s (n + 1) =
      if n < s.clock.toNat then bufferAfter p s n
      else shiftIn (p.getLsbD n) (bufferAfter p s n) := by
  unfold bufferAfter
  split
  · rw [show n + 1 - s.clock.toNat = n - s.clock.toNat by omega]
  · have hbit : p.getLsbD n = (p >>> s.clock.toNat).getLsbD (n - s.clock.toNat) := by
      rw [BitVec.getLsbD_ushiftRight]; congr 1; omega
    rw [hbit, shiftIn_shifted _ _ (by omega)]
    congr 1; omega

theorem bufferAfter_clockLow (p : Byte) {s : State} (h : s.clock = false) (n : Nat) :
    bufferAfter p s n = (p <<< (8 - n)) ||| (s.sr >>> n) := by
  simp [bufferAfter, shifted, h]

/-- R66: entered with the clock low a frame leaves nothing of the old contents. -/
theorem bufferAfter_clockLow_last (p : Byte) {s : State} (h : s.clock = false) :
    bufferAfter p s 8 = p := by
  have hold : s.sr >>> 8 = 0 := BitVec.ushiftRight_eq_zero le_rfl
  rw [bufferAfter_clockLow p h, hold]
  simp

/-- R131: entered with the clock high a frame leaves the top bit of the old contents in place of its
bit 0. -/
theorem bufferAfter_clockHigh_last (p : Byte) {s : State} (h : s.clock = true) :
    bufferAfter p s 8 = (p &&& 0xFE) ||| (s.sr >>> 7) := by
  have hmask : (p >>> 1) <<< 1 = p &&& 0xFE := by
    rw [BitVec.shiftLeft_ushiftRight]
    rfl
  simp [bufferAfter, shifted, h, hmask]

/-- The waits among the first `k` micro-steps of a frame (R133). -/
def waitsDone (k : Nat) : Nat := Nat.count (fun j => isWaitPosition j = true) k

/-- The line writes among the first `k` micro-steps of a frame (R132). -/
def writesDone (k : Nat) : Nat := Nat.count (fun j => ¬ isWaitPosition j = true) k

theorem Waited.add_zero (w : Waited) (c : Caller) : w.add c 0 = w := by
  cases c <;> simp [Waited.add]

theorem Waited.add_add (w : Waited) (c : Caller) (d e : Duration) :
    (w.add c d).add c e = w.add c (d + e) := by
  cases c <;> simp [Waited.add, add_assoc]

/-- On defined contents only a clock-high changes the buffer (R63, R65). -/
theorem microEffect_sr_of_clean (c : Caller) {m : MicroOp} {s : State} (hg : s.garbled = false)
    (hm : m ≠ .write .clock true) : (microEffect c m s).sr = s.sr := by
  match m, hm with
  | .wait, _ => rfl
  | .write .data v, _ => simp [microEffect, hg]
  | .write .clock false, _ => simp [microEffect, hg]
  | .write .latch v, _ => simp [microEffect, hg]

/-- On defined contents only a latch-high changes the outputs (R64, R65). -/
theorem microEffect_q_of_clean (c : Caller) {m : MicroOp} {s : State} (hg : s.garbled = false)
    (hm : m ≠ .write .latch true) : (microEffect c m s).q = s.q := by
  match m, hm with
  | .wait, _ => rfl
  | .write .data v, _ => simp [microEffect, hg]
  | .write .latch false, _ => simp [microEffect, hg]
  | .write .clock v, _ => simp [microEffect, hg]

section
variable (c : Caller) (p : Byte) (s : State) {k : Nat}

theorem frameAfter_sr_of_no_clockHigh (hg : (s.garbled && s.clock) = false) (hk : k < 47)
    (h : ¬ WritesAt p k .clock true) : (frameAfter c p s (k + 1)).sr = (frameAfter c p s k).sr := by
  rw [frameAfter_succ c p s State.sr (fun _ _ _ => rfl) hk]
  exact microEffect_sr_of_clean c ((frameAfter_garbled c p s k).trans hg)
    fun e => h ((frameOp_write_iff p ⟨k, hk⟩ _ _).mp e)

/-- Clock-high `i` shifts bit `i` in, but for a bit 0 whose clock-high makes no edge (R63, R131). -/
theorem frameAfter_sr_of_clockHigh (hg : (s.garbled && s.clock) = false) {i : Nat} (hi : i < 8) :
    (frameAfter c p s (4 + 5 * i + 1)).sr =
      if i < s.clock.toNat then (frameAfter c p s (4 + 5 * i)).sr
      else shiftIn (p.getLsbD i) (frameAfter c p s (4 + 5 * i)).sr := by
  have hm : frameOp p ⟨4 + 5 * i, by omega⟩ = .write .clock true :=
    (frameOp_write_iff p _ _ _).mpr ⟨i, hi, rfl⟩
  have hd : (frameAfter c p s (4 + 5 * i)).data = p.getLsbD i := by
    rw [frameAfter_data c p s (by omega), if_neg (by omega)]; congr 1; omega
  have hc : (frameAfter c p s (4 + 5 * i)).clock = decide (i < s.clock.toNat) := by
    rw [frameAfter_clock c p s (by omega)]
    cases s.clock <;> simp
  rw [frameAfter_succ c p s State.sr (fun _ _ _ => rfl) (by omega), hm, microEffect,
    lineWrite_clock_sr, frameAfter_garbled, hg, hd, hc]
  by_cases h : i < s.clock.toNat <;> simp [h, rises]

/-- The buffer in a frame that does not find arbitrary contents with the clock high (R66, R131). -/
theorem frameAfter_sr (hg : (s.garbled && s.clock) = false) (hk : k ≤ 47) :
    (frameAfter c p s k).sr = bufferAfter p s (clocksDone k) := by
  induction k with
  | zero => simp [frameAfter, bufferAfter, shifted, clocksDone]
  | succ k ih =>
    by_cases hhigh : k < 42 ∧ k % 5 = 4
    · obtain ⟨i, hi, rfl⟩ : ∃ i, i < 8 ∧ k = 4 + 5 * i := ⟨k / 5, by omega, by omega⟩
      rw [frameAfter_sr_of_clockHigh c p s hg hi, ih (by omega),
        show clocksDone (4 + 5 * i) = i by unfold clocksDone; omega,
        show clocksDone (4 + 5 * i + 1) = i + 1 by unfold clocksDone; omega]
      exact (bufferAfter_succ p s hi).symm
    · have hw : ¬ WritesAt p k .clock true := by rintro ⟨i, hi, rfl⟩; omega
      rw [frameAfter_sr_of_no_clockHigh c p s hg hk hw, ih (by omega)]
      congr 1
      unfold clocksDone
      omega

theorem frameAfter_q_of_no_latchHigh (hg : (s.garbled && s.clock) = false) (hk : k < 47)
    (h : ¬ WritesAt p k .latch true) : (frameAfter c p s (k + 1)).q = (frameAfter c p s k).q := by
  rw [frameAfter_succ c p s State.q (fun _ _ _ => rfl) hk]
  exact microEffect_q_of_clean c ((frameAfter_garbled c p s k).trans hg)
    fun e => h ((frameOp_write_iff p ⟨k, hk⟩ _ _).mp e)

/-- The latch-high at 43 copies the eight bits to the outputs (R64, R135). -/
theorem frameAfter_q_of_latchHigh (hg : (s.garbled && s.clock) = false) :
    (frameAfter c p s 44).q = bufferAfter p s 8 := by
  have hlatch : (frameAfter c p s 43).latch = false := frameAfter_latch c p s (k := 43) (by omega)
  have hsr : (frameAfter c p s 43).sr = bufferAfter p s 8 := frameAfter_sr c p s hg (by omega)
  rw [frameAfter_succ c p s State.q (fun _ _ _ => rfl) (by omega),
    (frameOp_write_iff p ⟨43, by omega⟩ .latch true).mpr rfl, microEffect, lineWrite_latch_q,
    frameAfter_garbled, hg, hlatch, hsr]
  rfl

/-- The outputs in a frame that does not find arbitrary contents with the clock high (R135). -/
theorem frameAfter_q (hg : (s.garbled && s.clock) = false) (hk : k ≤ 47) :
    (frameAfter c p s k).q = if k ≤ 43 then s.q else bufferAfter p s 8 := by
  induction k with
  | zero => rfl
  | succ k ih =>
    by_cases h43 : k = 43
    · subst h43
      exact frameAfter_q_of_latchHigh c p s hg
    · rw [frameAfter_q_of_no_latchHigh c p s hg hk h43, ih (by omega)]
      simp only [show k ≤ 43 ↔ k + 1 ≤ 43 by omega]

theorem frameOp_wait_of {k : Nat} (hk : k < 47) (h : isWaitPosition k = true) :
    frameOp p ⟨k, hk⟩ = .wait := (frameOp_wait_iff p ⟨k, hk⟩).mpr h

theorem frameOp_write_of {k : Nat} (hk : k < 47) (h : ¬ isWaitPosition k = true) :
    ∃ l v, frameOp p ⟨k, hk⟩ = .write l v := by
  obtain ⟨l, v, hw⟩ := writesAt_of_not_wait p hk h
  exact ⟨l, v, (frameOp_write_iff p ⟨k, hk⟩ l v).mpr hw⟩

/-- Each wait done is one of `BIT_DELAY` (R133, R240). -/
theorem frameAfter_waited (hk : k ≤ 47) :
    (frameAfter c p s k).waited = s.waited.add c (waitsDone k * s.cfg.bitDelay) := by
  induction k with
  | zero => simp [frameAfter, waitsDone, Waited.add_zero]
  | succ k ih =>
    rw [frameAfter_succ c p s State.waited (fun _ _ _ => rfl) hk]
    by_cases hw : isWaitPosition k = true
    · have hcount : waitsDone (k + 1) = waitsDone k + 1 := by simp [waitsDone, Nat.count_succ, hw]
      rw [frameOp_wait_of p hk hw, microEffect, await_waited, ih (by omega), Waited.add_add,
        frameAfter_cfg, hcount]
      congr 1
      push_cast
      ring
    · have hcount : waitsDone (k + 1) = waitsDone k := by simp [waitsDone, Nat.count_succ, hw]
      obtain ⟨l, v, e⟩ := frameOp_write_of p hk hw
      rw [e, microEffect, lineWrite_waited, ih (by omega), hcount]

/-- While the contents are arbitrary each line write takes a fresh free value (log entry 22). -/
theorem frameAfter_free (hk : k ≤ 47) : (frameAfter c p s k).free =
    s.free + if s.garbled && s.clock then writesDone k else 0 := by
  induction k with
  | zero => simp [frameAfter, writesDone]
  | succ k ih =>
    rw [frameAfter_succ c p s State.free (fun _ _ _ => rfl) hk]
    by_cases hw : isWaitPosition k = true
    · have hcount : writesDone (k + 1) = writesDone k := by simp [writesDone, Nat.count_succ, hw]
      rw [frameOp_wait_of p hk hw, microEffect, await_free, ih (by omega), hcount]
    · have hcount : writesDone (k + 1) = writesDone k + 1 := by
        simp [writesDone, Nat.count_succ, hw]
      obtain ⟨l, v, e⟩ := frameOp_write_of p hk hw
      rw [e, microEffect, lineWrite_free, frameAfter_garbled, ih (by omega), hcount]
      split <;> rfl

/-- A frame that finds arbitrary contents with the clock high leaves them arbitrary: the last of its
27 writes, at 45, took the free values that stay (R225; log entry 22). -/
theorem frameAfter_contents_of_garbled (hg : (s.garbled && s.clock) = true) :
    (frameAfter c p s 47).sr = Config.glitchSr (s.free + 26) ∧
      (frameAfter c p s 47).q = Config.glitchQ (s.free + 26) := by
  have hfree : (frameAfter c p s 45).free = s.free + 26 := by
    rw [frameAfter_free c p s (by omega), if_pos hg]
    rfl
  have hlast : frameOp p ⟨45, by omega⟩ = .write .latch false :=
    (frameOp_write_iff p _ .latch false).mpr (.inr rfl)
  have hwait : frameOp p ⟨46, by omega⟩ = .wait := frameOp_wait_of p _ rfl
  constructor
  · rw [frameAfter_succ c p s State.sr (fun _ _ _ => rfl) (by omega), hwait, microEffect, await_sr,
      frameAfter_succ c p s State.sr (fun _ _ _ => rfl) (by omega), hlast, microEffect,
      lineWrite_latch_sr, frameAfter_garbled, if_pos hg, hfree]
  · rw [frameAfter_succ c p s State.q (fun _ _ _ => rfl) (by omega), hwait, microEffect, await_q,
      frameAfter_succ c p s State.q (fun _ _ _ => rfl) (by omega), hlast, microEffect,
      lineWrite_latch_q, frameAfter_garbled, if_pos hg, hfree]

end

/-- Settles O23. -/
theorem frameCourse : Obligations.FrameCourse := by
  unfold Obligations.FrameCourse
  intro c p s k hc hk
  have hg : (s.garbled && s.clock) = false := by simp [hc]
  refine ⟨?_, ?_, ?_, ?_⟩
  · exact (frameAfter_q c p s hg hk).trans (by rw [bufferAfter_clockLow_last p hc])
  · exact (frameAfter_sr c p s hg hk).trans (bufferAfter_clockLow p hc _)
  · rintro rfl
    exact frameAfter_waited c p s hk
  · rintro rfl
    exact frameAfter_waited c p s hk

/-! ## A whole frame -/

/-- What `controlView` leaves out of a state (R129). -/
theorem eq_of_controlView {s t : State} (h : controlView t = controlView s) :
    t = { s with
      data := t.data, clock := t.clock, latch := t.latch, pat := t.pat, sact := t.sact
      spc := t.spc, sr := t.sr, q := t.q, garbled := t.garbled, free := t.free
      waited := t.waited } := by
  cases s
  cases t
  simp_all [controlView]

/-- What a whole frame does, but to the contents of the connected register and the counter of the
free values (R128, R130, R133). -/
theorem sendFrame_eq (c : Caller) (p : Byte) (s : State) :
    sendFrame c p s = { s with
      data := p.getLsbD 7, clock := false, latch := false, pat := p, sact := false, spc := 46
      sr := (sendFrame c p s).sr, q := (sendFrame c p s).q, free := (sendFrame c p s).free
      garbled := s.garbled && s.clock
      waited := s.waited.add c (20 * s.cfg.bitDelay) } := by
  have hd : (sendFrame c p s).data = p.getLsbD 7 := frameAfter_data c p s (k := 47) le_rfl
  have hc : (sendFrame c p s).clock = false := frameAfter_clock c p s (k := 47) le_rfl
  have hl : (sendFrame c p s).latch = false := frameAfter_latch c p s (k := 47) le_rfl
  have hp : (sendFrame c p s).pat = p := frameAfter_pat c p s 47
  have hg : (sendFrame c p s).garbled = (s.garbled && s.clock) := frameAfter_garbled c p s 47
  have hw : (sendFrame c p s).waited = s.waited.add c (20 * s.cfg.bitDelay) :=
    frameAfter_waited c p s (k := 47) le_rfl
  obtain ⟨hsact, hspc⟩ := sendFrame_over c p s
  have e := eq_of_controlView (sendFrame_controlView c p s)
  rwa [hd, hc, hl, hp, hg, hw, hsact, hspc] at e

/-- A frame that does not find arbitrary contents with the clock high (R66, R131). -/
theorem sendFrame_of_clean (c : Caller) (p : Byte) {s : State}
    (hg : (s.garbled && s.clock) = false) :
    sendFrame c p s = { s with
      data := p.getLsbD 7, clock := false, latch := false, pat := p, sact := false, spc := 46
      sr := bufferAfter p s 8, q := bufferAfter p s 8, garbled := false
      waited := s.waited.add c (20 * s.cfg.bitDelay) } := by
  have hsr : (sendFrame c p s).sr = bufferAfter p s 8 := frameAfter_sr c p s hg (k := 47) le_rfl
  have hq : (sendFrame c p s).q = bufferAfter p s 8 := frameAfter_q c p s hg (k := 47) le_rfl
  have hfree : (sendFrame c p s).free = s.free :=
    (frameAfter_free c p s (k := 47) le_rfl).trans (by rw [hg]; rfl)
  rw [sendFrame_eq, hsr, hq, hfree, hg]

/-- A frame that finds arbitrary contents with the clock high (R225; log entry 22). -/
theorem sendFrame_of_garbled (c : Caller) (p : Byte) {s : State}
    (hg : (s.garbled && s.clock) = true) :
    sendFrame c p s = { s with
      data := p.getLsbD 7, clock := false, latch := false, pat := p, sact := false, spc := 46
      sr := Config.glitchSr (s.free + 26), q := Config.glitchQ (s.free + 26), free := s.free + 27
      garbled := true
      waited := s.waited.add c (20 * s.cfg.bitDelay) } := by
  obtain ⟨hsr, hq⟩ : (sendFrame c p s).sr = _ ∧ (sendFrame c p s).q = _ :=
    frameAfter_contents_of_garbled c p s hg
  have hfree : (sendFrame c p s).free = s.free + 27 :=
    (frameAfter_free c p s (k := 47) le_rfl).trans (by rw [if_pos hg]; rfl)
  rw [sendFrame_eq, hsr, hq, hfree, hg]

theorem exec_shiftout_of_not_inFlight (p : Byte) {s : State} (hf : inFlight s = false) :
    exec (.shiftout p) s = .next (sendFrame .harness p s) := by
  simp [exec, execShiftout, callDisplay, hf]

/-- Settles O17. -/
theorem shiftoutResult : Obligations.ShiftoutResult := by
  unfold Obligations.ShiftoutResult
  intro p s hf hc
  rw [exec_shiftout_of_not_inFlight p hf, sendFrame_of_clean _ p (by simp [hc]),
    bufferAfter_clockLow_last p hc]
  rfl

/-- Settles O18. -/
theorem shiftoutEnteredClockHigh : Obligations.ShiftoutEnteredClockHigh := by
  unfold Obligations.ShiftoutEnteredClockHigh
  intro p s hf hc
  rw [exec_shiftout_of_not_inFlight p hf]
  refine ⟨fun hg => ?_, fun hg => ?_⟩
  · rw [sendFrame_of_clean _ p (by simp [hg]), bufferAfter_clockHigh_last p hc, hg]
    rfl
  · rw [sendFrame_of_garbled _ p (by simp [hg, hc]), hg]
    rfl

end Sys2Proof.Safety

namespace Sys2Proof.Safety

open Sys2Proof.Machine

/-! ## How often each micro-step stands in the frame program, and how often each line changes -/

/-- The five micro-steps of a bit of level `b` (R91, R130). -/
def bitOps (b : Bool) : List MicroOp :=
  [.write .data b, .wait, .write .clock true, .wait, .write .clock false]

/-- The micro-steps of a frame before its eight bits (R130). -/
def openingOps : List MicroOp := [.wait, .write .latch false]

/-- The micro-steps of a frame after its eight bits (R130). -/
def closingOps : List MicroOp := [.wait, .write .latch true, .wait, .write .latch false, .wait]

/-- The frame program as a list: the eight bits between its opening and its closing (R130). -/
theorem frameOps_eq (p : Byte) : (List.finRange 47).map (frameOp p) =
    openingOps ++ (List.range 8).flatMap (fun i => bitOps (p.getLsbD i)) ++ closingOps := rfl

/-- What is counted in the opening, in the eight bits and in the closing (R132). -/
theorem count_frameOps (p : Byte) (m : MicroOp) : ((List.finRange 47).map (frameOp p)).count m =
    openingOps.count m + ((List.range 8).map fun i => (bitOps (p.getLsbD i)).count m).sum +
      closingOps.count m := by
  rw [frameOps_eq, List.count_append, List.count_append, List.count_flatMap]
  rfl

/-- What stands equally often in the micro-steps of a low and of a high bit is counted without the
pattern (R132). -/
theorem count_frameOps_of_both (p : Byte) {m : MicroOp} {n : Nat}
    (h : ∀ b, (bitOps b).count m = n) : ((List.finRange 47).map (frameOp p)).count m =
      openingOps.count m + 8 * n + closingOps.count m := by
  simp only [count_frameOps, h, List.map_const', List.length_range, List.sum_replicate,
    smul_eq_mul]

/-- Each bit has one data write, whichever its level (R132). -/
theorem count_frameOps_data (p : Byte) :
    ((List.finRange 47).map (frameOp p)).count (.write .data true) +
      ((List.finRange 47).map (frameOp p)).count (.write .data false) = 8 := by
  have hone (b : Bool) : (bitOps b).count (.write .data true) +
      (bitOps b).count (.write .data false) = 1 := by cases b <;> rfl
  have hsum : ((List.range 8).map fun i => (bitOps (p.getLsbD i)).count (.write .data true) +
      (bitOps (p.getLsbD i)).count (.write .data false)).sum = 8 := by simp [hone]
  rw [List.sum_map_add] at hsum
  rw [count_frameOps, count_frameOps]
  simpa [openingOps, closingOps] using hsum

theorem count_frameOps_wait (p : Byte) :
    ((List.finRange 47).map (frameOp p)).count .wait = 20 :=
  count_frameOps_of_both p (n := 2) (by decide)

/-- What is no wait is a line write (R91). -/
theorem length_frameOps_writes (p : Byte) :
    (((List.finRange 47).map (frameOp p)).filter fun m => m != .wait).length = 27 := by
  have hsplit := List.length_eq_countP_add_countP (· == MicroOp.wait)
    (l := (List.finRange 47).map (frameOp p))
  have hwait := count_frameOps_wait p
  simp only [List.count, List.countP_eq_length_filter, List.length_map, List.length_finRange,
    decide_not, Bool.decide_eq_true] at hsplit hwait
  rw [hwait] at hsplit
  simp only [bne]
  omega

/-- The level of the data line, `v` at entry, when bit `i` is written (R132). -/
def levelBefore (p : Byte) (v : Bool) : Nat → Bool
  | 0 => v
  | i + 1 => p.getLsbD i

/-- The data positions of a frame are those of its eight bits (R130). -/
theorem length_filter_dataPositions (f : Nat → Bool) :
    ((List.range 47).filter fun k => decide (k < 42 ∧ k % 5 = 2) && f (k / 5)).length =
      ((List.range 8).filter f).length := by
  have hpos : ((List.range 47).filter fun k => decide (k < 42 ∧ k % 5 = 2)).map (· / 5) =
      List.range 8 := by decide
  rw [← hpos, List.filter_map, List.length_map, List.filter_filter]
  simp only [Function.comp_def, Bool.and_comm]

section
variable (c : Caller) (p : Byte) (s : State)

/-- The rising edges of a line in a frame, read off its level after each number of micro-steps. -/
theorem filter_risingEdges (line : State → Bool) (f : Nat → Bool)
    (h : ∀ k, k ≤ 47 → line (frameAfter c p s k) = f k) :
    ((List.range 47).filter fun k =>
        !line (frameAfter c p s k) && line (frameAfter c p s (k + 1))) =
      (List.range 47).filter fun k => !f k && f (k + 1) := by
  refine List.filter_congr fun k hk => ?_
  have hk : k < 47 := List.mem_range.mp hk
  rw [h k hk.le, h (k + 1) hk]

/-- Entered with the clock low, a frame makes one rising edge of it for each bit (R132). -/
theorem length_clockEdges (hc : s.clock = false) :
    ((List.range 47).filter fun k => !(frameAfter c p s k).clock &&
      (frameAfter c p s (k + 1)).clock).length = 8 := by
  rw [filter_risingEdges c p s State.clock _ fun k hk => frameAfter_clock c p s hk, hc]
  decide

/-- Whatever the level at entry, the latch rises once: it is driven low before it is driven high
(R132). -/
theorem length_latchEdges :
    ((List.range 47).filter fun k => !(frameAfter c p s k).latch &&
      (frameAfter c p s (k + 1)).latch).length = 1 := by
  rw [filter_risingEdges c p s State.latch _ fun k hk => frameAfter_latch c p s hk]
  cases s.latch <;> decide

/-- The data line changes only where a bit is written, if that differs from the level before it
(R132). -/
theorem data_ne_next {k : Nat} (hk : k < 47) :
    ((frameAfter c p s k).data != (frameAfter c p s (k + 1)).data) =
      (decide (k < 42 ∧ k % 5 = 2) && levelBefore p s.data (k / 5) != p.getLsbD (k / 5)) := by
  by_cases hpos : k < 42 ∧ k % 5 = 2
  · obtain ⟨i, hi, rfl⟩ : ∃ i, i < 8 ∧ k = 2 + 5 * i := ⟨k / 5, by omega, by omega⟩
    have hbefore : (frameAfter c p s (2 + 5 * i)).data = levelBefore p s.data i := by
      rw [frameAfter_data c p s (by omega)]
      cases i with
      | zero => rfl
      | succ i => rw [if_neg (by omega), levelBefore]; congr 1; omega
    have hafter : (frameAfter c p s (2 + 5 * i + 1)).data = p.getLsbD i := by
      rw [frameAfter_data c p s (by omega), if_neg (by omega)]; congr 1; omega
    rw [hbefore, hafter, decide_eq_true hpos, show (2 + 5 * i) / 5 = i by omega, Bool.true_and]
  · have hw (v : Bool) : ¬ WritesAt p k .data v := by rintro ⟨i, hi, rfl, -⟩; omega
    have hsame : (frameAfter c p s (k + 1)).data = (frameAfter c p s k).data :=
      level_frameAfter_of_no_write c p s (l := .data) hk hw
    rw [hsame, decide_eq_false hpos, bne_self_eq_false, Bool.false_and]

theorem length_dataTransitions :
    ((List.range 47).filter fun k => (frameAfter c p s k).data !=
      (frameAfter c p s (k + 1)).data).length =
      (if s.data = p.getLsbD 0 then 0 else 1) +
        ((List.range 7).filter fun i => p.getLsbD i != p.getLsbD (i + 1)).length := by
  rw [List.filter_congr fun k hk => data_ne_next c p s (List.mem_range.mp hk),
    length_filter_dataPositions fun i => levelBefore p s.data i != p.getLsbD i,
    List.range_succ_eq_map, List.filter_cons, List.filter_map]
  by_cases h0 : s.data = p.getLsbD 0
  · rw [if_neg (by simp [levelBefore, h0]), if_pos h0, List.length_map, Nat.zero_add]
    rfl
  · rw [if_pos (by simpa [levelBefore] using h0), if_neg h0, List.length_cons, List.length_map,
      Nat.add_comm]
    rfl

end

/-- Settles O16: the micro-steps are counted in the program, the edges and transitions in the
levels. -/
theorem frameCounts : Obligations.FrameCounts := by
  unfold Obligations.FrameCounts
  intro c p s
  exact ⟨length_frameOps_writes p, count_frameOps_wait p, count_frameOps_data p,
    count_frameOps_of_both p (n := 1) (by decide), count_frameOps_of_both p (n := 1) (by decide),
    count_frameOps_of_both p (n := 0) (by decide), count_frameOps_of_both p (n := 0) (by decide),
    length_clockEdges c p s, length_latchEdges c p s, length_dataTransitions c p s⟩

end Sys2Proof.Safety

namespace Sys2Proof.Safety

open Sys2Proof.Machine

/-! ## The display commands as whole calls -/

/-- Entered with the clock low a frame leaves its pattern on the display, whatever was there (R66,
R225). -/
theorem sendFrame_of_clockLow (c : Caller) (p : Byte) {s : State} (hc : s.clock = false) :
    sendFrame c p s = { s with
      data := p.getLsbD 7, clock := false, latch := false
      sr := p, q := p, pat := p, sact := false, spc := 46, garbled := false
      waited := s.waited.add c (20 * s.cfg.bitDelay) } := by
  rw [sendFrame_of_clean c p (by simp [hc]), bufferAfter_clockLow_last p hc]

/-- R151: `CLEAR` is the frame of `BLANK`. -/
theorem exec_clear_eq_shiftout (s : State) : exec .clear s = exec (.shiftout Config.blank) s := rfl

/-- R152: `SHOWDIGIT n` is the frame of `PatternOf(n)`. -/
theorem exec_showdigit_eq_shiftout (n : Int) (s : State) :
    exec (.showdigit n) s = exec (.shiftout (patternOf n)) s := rfl

/-- Settles O19. -/
theorem clearResult : Obligations.ClearResult := by
  unfold Obligations.ClearResult
  exact fun s => ⟨exec_clear_eq_shiftout s, shiftoutResult Config.blank s⟩

/-- The pattern of an integer is settled by its two cases: a digit, or none (R94). -/
theorem patternOf_eq {n : Int} {p : Byte} (hdigit : ∀ k : Fin 10, n = k.val → p = Config.glyph k)
    (hblank : n < 0 ∨ 9 < n → p = Config.blank) : patternOf n = p := by
  by_cases h : 0 ≤ n ∧ n ≤ 9
  · obtain ⟨k, rfl⟩ : ∃ k : Fin 10, n = k.val := ⟨⟨n.toNat, by omega⟩, by simp; omega⟩
    rw [patternOf_digit, hdigit k rfl]
  · have hout : n < 0 ∨ 9 < n := by omega
    rw [patternOf_of_out_of_range n hout, hblank hout]

/-- Settles O20. -/
theorem showDigitResult : Obligations.ShowDigitResult := by
  unfold Obligations.ShowDigitResult
  intro n p s hdigit hblank
  rw [exec_showdigit_eq_shiftout, patternOf_eq hdigit hblank]
  exact ⟨rfl, shiftoutResult p s⟩

/-- `LINES_OFF` brings the lines low; arbitrary contents stay so, and take three fresh free values
(R154; log entry 22). -/
theorem linesOff_eq (s : State) : linesOff s = { s with
    data := false, clock := false, latch := false
    sr := (linesOff s).sr, q := (linesOff s).q
    free := if s.garbled then s.free + 3 else s.free } := by
  cases hg : s.garbled <;> simp [linesOff, lineWrite, garble, driveLine, hg]

/-- On defined contents `LINES_OFF` changes nothing but the lines (R65, R154). -/
theorem linesOff_of_clean {s : State} (hg : s.garbled = false) :
    linesOff s = { s with data := false, clock := false, latch := false } := by
  simp [linesOff, lineWrite, garble, driveLine, hg]

/-- A whole `RESET`: its frame is entered with the clock low, so neither the lines nor the contents it
finds matter (R153, R225). -/
theorem resetCall_eq (c : Caller) (s : State) :
    linesOff (sendFrame c Config.blank (linesOff s)) = { s with
      data := false, clock := false, latch := false
      sr := Config.blank, q := Config.blank, pat := Config.blank, sact := false, spc := 46
      garbled := false, free := if s.garbled then s.free + 3 else s.free
      waited := s.waited.add c (20 * s.cfg.bitDelay) } := by
  rw [linesOff_eq s, sendFrame_of_clockLow c Config.blank rfl, linesOff_of_clean rfl]

/-- Settles O21. -/
theorem resetResult : Obligations.ResetResult := by
  unfold Obligations.ResetResult
  intro s hf
  have hexec : exec .reset s =
      .next (linesOff (sendFrame .harness Config.blank (linesOff s))) := by
    simp [exec, execReset, callDisplay, hf]
  rw [hexec, resetCall_eq]
  rfl

/-- Between display operations both marks of one in flight are cleared (R129; log entry 9). -/
theorem inFlight_eq_false_iff (s : State) :
    inFlight s = false ↔ s.sact = false ∧ s.flight = .idle := by
  simp [inFlight]

/-- A second frame of the same pattern finds its own end state (R155). -/
theorem exec_shiftout_again {p : Byte} {s t : State} (hf : inFlight s = false)
    (hc : s.clock = false) (h : exec (.shiftout p) s = .next t) :
    exec (.shiftout p) t = .next { t with
      waited := { t.waited with harness := t.waited.harness + 20 * t.cfg.bitDelay } } := by
  obtain ⟨-, hflight⟩ := (inFlight_eq_false_iff s).mp hf
  rw [shiftoutResult p s hf hc] at h
  cases h
  exact shiftoutResult p _ ((inFlight_eq_false_iff _).mpr ⟨rfl, hflight⟩) rfl

/-- A second `RESET` finds the end state of the first (R155). -/
theorem exec_reset_again {s t : State} (hf : inFlight s = false) (h : exec .reset s = .next t) :
    exec .reset t = .next { t with
      waited := { t.waited with harness := t.waited.harness + 20 * t.cfg.bitDelay } } := by
  obtain ⟨-, hflight⟩ := (inFlight_eq_false_iff s).mp hf
  rw [resetResult s hf] at h
  cases h
  exact resetResult _ ((inFlight_eq_false_iff _).mpr ⟨rfl, hflight⟩)

/-- Settles O22: three of the four calls are a `SHIFTOUT`. -/
theorem displayCallsIdempotent : Obligations.DisplayCallsIdempotent := by
  unfold Obligations.DisplayCallsIdempotent
  intro i s t hi hf hc h
  cases i with
  | shiftout p => exact exec_shiftout_again hf (hc.resolve_right (by simp)) h
  | clear => exact exec_shiftout_again (p := Config.blank) hf (hc.resolve_right (by simp)) h
  | showdigit n => exact exec_shiftout_again (p := patternOf n) hf (hc.resolve_right (by simp)) h
  | reset => exact exec_reset_again hf h
  | _ => cases hi

end Sys2Proof.Safety

namespace Sys2Proof.Safety

open Sys2Proof.Machine

/-! ## A frame that the controller calls, one micro-step a step -/

/-- What the controller has in flight plays no part in a micro-step of a frame (log entry 9). -/
theorem microEffect_withFlight (c : Caller) (m : MicroOp) (f : Flight) (s : State) :
    microEffect c m { s with flight := f } = { microEffect c m s with flight := f } := by
  cases m with
  | wait => rfl
  | write l v => cases l <;> rfl

theorem frameStep_withFlight (c : Caller) (f : Flight) (s : State) :
    frameStep c { s with flight := f } = { frameStep c s with flight := f } := by
  simp only [frameStep, microEffect_withFlight]

/-- The state after `k` micro-steps of a frame of `p` that the controller has called from `s` and that
has not ended (R150). -/
def calledFrame (c : Caller) (p : Byte) (s : State) (k : Nat) : State :=
  { frameAfter c p s k with flight := .frame false }

section
variable (c : Caller) (p : Byte) (s : State) {k : Nat}

/-- `SACT` is 1 from the call of a frame until its last micro-step has been performed (R25). -/
theorem frameAfter_sact (hk : k < 47) : (frameAfter c p s k).sact = true := by
  cases k with
  | zero => rfl
  | succ k =>
    have hspc : (frameAfter c p s k).spc.val = k := iterate_frameStep_spc c p s k (by omega)
    rw [frameAfter, Function.iterate_succ_apply', ← frameAfter, frameStep_sact, hspc,
      decide_eq_true (by omega)]

/-- The next micro-step of a called frame; with the last one nothing is in flight (R150). -/
theorem displayStep_calledFrame (hk : k < 47) :
    displayStep c (calledFrame c p s k) =
      { frameAfter c p s (k + 1) with flight := if k = 46 then .idle else .frame false } := by
  have hspc : (frameAfter c p s k).spc.val = k := iterate_frameStep_spc c p s k (by omega)
  have henter : enterDueFrame (calledFrame c p s k) = calledFrame c p s k :=
    if_pos (frameAfter_sact c p s hk)
  have hnext : frameStep c (frameAfter c p s k) = frameAfter c p s (k + 1) :=
    (Function.iterate_succ_apply' _ _ _).symm
  rw [displayStep_frame c _ false rfl, henter, calledFrame, frameStep_withFlight, hnext]
  simp [hspc]

variable (start done : State → State)

/-- A call with nothing in flight goes on as from the state the call itself leaves (R150). -/
theorem callStep_of_idle {s : State} (hs : s.flight = .idle) (hstart : (start s).flight ≠ .idle) :
    callStep c start done s = callStep c start done (start s) := by
  simp only [callStep, hs, hstart, if_true, if_false]

theorem callStep_calledFrame (hk : k < 46) :
    callStep c start done (calledFrame c p s k) = calledFrame c p s (k + 1) := by
  have hne : (calledFrame c p s k).flight ≠ .idle := by simp [calledFrame]
  simp only [callStep, if_neg hne, displayStep_calledFrame c p s (show k < 47 by omega),
    if_neg (show k ≠ 46 by omega)]
  rfl

/-- With the last micro-step of its frame a call is done (R150). -/
theorem callStep_calledFrame_last :
    callStep c start done (calledFrame c p s 46) =
      done { sendFrame c p s with flight := .idle } := by
  have hne : (calledFrame c p s 46).flight ≠ .idle := by simp [calledFrame]
  simp only [callStep, if_neg hne, displayStep_calledFrame c p s (show 46 < 47 by omega), if_true]
  rfl

end

/-! ## The display calls of the roll -/

/-- One more execution after `k` that went on. -/
theorem repeatOp_succ_of_next {i : Instr} {k : Nat} {s t : State} (h : repeatOp i k s = .next t) :
    repeatOp i (k + 1) s = exec i t := by
  induction k generalizing s with
  | zero =>
    cases h
    cases he : exec i t <;> simp [repeatOp, he]
  | succ k ih =>
    rw [repeatOp] at h ⊢
    split at h
    next u hu => simpa only [hu] using ih h
    next hn => exact absurd h (hn t)

/-- `ROLL` at a display call is a step of the call of the pattern it sends (R180). -/
theorem exec_roll_of_atShow {s : State} (h : AtShow s) :
    exec .roll s = .next (callStep .roll (startFrame (calledPattern s)) advanceRpc s) := by
  obtain ⟨hc, hcall⟩ := h
  have hstep : exec .roll s = .next (rollStep s) := by simp [exec, execRoll, hc]
  rw [hstep, rollStep]
  cases ha : rollAction s.rpc with
  | showSpin | showFinal | blank => simp [calledPattern, ha]
  | _ => simp [ha, isCallAction] at hcall

/-- The roll stays at its display call while the frame runs (R129, R180). -/
theorem atShow_calledFrame (c : Caller) (p : Byte) {s : State} (h : AtShow s) (k : Nat) :
    AtShow (calledFrame c p s k) := by
  have hview : ((frameAfter c p s k).cst, (frameAfter c p s k).rpc) = (s.cst, s.rpc) :=
    iterate_field _ (fun u => (u.cst, u.rpc)) (by simp) k _
  obtain ⟨hcst, hrpc⟩ := Prod.mk.inj hview
  simpa [AtShow, calledFrame, hcst, hrpc] using h

section
variable {s : State} (h : AtShow s) (hf : s.flight = .idle)
include h hf

/-- The first 46 executions of `ROLL` at a display call are the first 46 micro-steps (R150). -/
theorem repeatOp_roll_calledFrame (k : Nat) (hk : k < 46) :
    repeatOp .roll (k + 1) s = .next (calledFrame .roll (calledPattern s) s (k + 1)) := by
  induction k with
  | zero =>
    rw [repeatOp_succ_of_next rfl, exec_roll_of_atShow h,
      callStep_of_idle .roll _ advanceRpc hf (by simp)]
    exact congrArg _ (callStep_calledFrame .roll _ s _ _ hk)
  | succ k ih =>
    rw [repeatOp_succ_of_next (ih (by omega)), exec_roll_of_atShow (atShow_calledFrame _ _ h _),
      callStep_calledFrame .roll _ s _ _ hk]

/-- The 47th execution of `ROLL` at a display call ends the frame and the action (R150, R180). -/
theorem repeatOp_roll_of_atShow :
    repeatOp .roll 47 s =
      .next (advanceRpc { sendFrame .roll (calledPattern s) s with flight := .idle }) := by
  rw [repeatOp_succ_of_next (repeatOp_roll_calledFrame h hf 45 (by omega)),
    exec_roll_of_atShow (atShow_calledFrame _ _ h _), callStep_calledFrame_last]

end

/-- Settles O24. -/
theorem rollCallSendsFrame : Obligations.RollCallSendsFrame := by
  unfold Obligations.RollCallSendsFrame
  intro s hroll hcall hf hc
  obtain ⟨-, hflight⟩ := (inFlight_eq_false_iff s).mp hf
  rw [repeatOp_roll_of_atShow ⟨hroll, hcall⟩ hflight, sendFrame_of_clockLow _ _ hc, ← hflight]
  rfl

end Sys2Proof.Safety

namespace Sys2Proof.Safety

open Sys2Proof.Machine

/-! ## How a step changes the state of the controller -/

/-- The table of R172: `CST` is left alone, or a block is constructed, or one of the seven transitions
takes place, with what it needs. -/
def Transition (s t : State) : Prop :=
  t.cst ≠ s.cst →
    (s.built = false ∧ t.cst = .uninit) ∨
    (s.cst = .uninit ∧ t.cst = .setup) ∨
    (s.cst = .uninit ∧ t.cst = .shuttingDown ∧ s.termPending = true) ∨
    (s.cst = .setup ∧ t.cst = .idle ∧ s.lpc.val = 2) ∨
    (s.cst = .idle ∧ t.cst = .rolling ∧ t.rpc.val = 1 ∧ t.busy = true) ∨
    (s.cst = .rolling ∧ t.cst = .idle ∧ s.rpc.val = 50) ∨
    (s.cst = .idle ∧ t.cst = .shuttingDown ∧ s.termPending = true) ∨
    (s.cst = .shuttingDown ∧ t.cst = .halted ∧ s.lpc.val = 2)

theorem Transition.of_cst_eq {s t : State} (h : t.cst = s.cst) : Transition s t :=
  fun hne => absurd h hne

theorem Transition.of_controlView {s t : State} (h : controlView t = controlView s) :
    Transition s t := by
  simp only [controlView, Prod.mk.injEq] at h
  exact .of_cst_eq h.1

/-- No step of a display call changes `CST` (R129, R150). -/
theorem callStep_cst (c : Caller) {start done : State → State} (s : State)
    (hstart : ∀ u, (start u).cst = u.cst) (hdone : ∀ u, (done u).cst = u.cst) :
    (callStep c start done s).cst = s.cst :=
  callStep_field (·.cst) c start done s (by simp) hstart hdone

/-- Each action of the controller's programs, and each event, takes the transition of its row, or
none. -/
theorem transition_actionStep {s t : State} (h : ActionStep s t) : Transition s t := by
  cases h with
  | same | term | tick | arm | rollOther => exact .of_cst_eq rfl
  | resetCall => exact .of_cst_eq (callStep_cst _ s (by simp) (by simp))
  | showCall => exact .of_cst_eq (callStep_cst _ s (by simp) (by simp))
  | endInit hc => simp [Transition, hc]
  | enterShutdown hp hc => rcases hc with hc | hc <;> simp [Transition, hc, hp]
  | enterRoll hc => simp [Transition, hc]
  | setupEnd hc hl => simp [Transition, hc, hl]
  | halt hc hl => simp [Transition, hc, hl]
  | rollEnd hc hr => simp [Transition, hc, hr]

theorem transition_agentStep {s t : State} (h : ControlInv s) (ha : AgentStep s t) :
    Transition s t :=
  transition_actionStep (actionStep_of_agentStep h ha)

/-- Of what is issued from outside only the construction of a block writes `CST` (R173). -/
theorem transition_execStep {s t : State} (h : ControlInv s) (he : ExecStep s t) :
    Transition s t := by
  cases he with
  | moved _ ha => exact transition_agentStep h ha
  | due => exact transition_agentStep h (callerStep_agentStep s)
  | line l v => exact .of_cst_eq (by simp)
  | cut l v => exact .of_cst_eq (by simp)
  | wait d => exact .of_cst_eq rfl
  | frame p => exact .of_controlView (sendFrame_controlView _ _ s)
  | reset => exact .of_controlView (resetCall_controlView _ _ s)
  | construct c hb => exact fun _ => .inl ⟨hb, rfl⟩

/-- Settles O47, over everything a step can do. -/
theorem stateTransitions : Obligations.StateTransitions := by
  unfold Obligations.StateTransitions
  intro s t h hstep
  obtain ⟨w, rest, i, -, -, ⟨-, ha⟩ | ⟨u, -, -, he, rfl⟩⟩ | ⟨-, ha⟩ := step_cases s t hstep
  · exact transition_agentStep h ha
  · have hs : ControlInv { s with script := rest } := h.congr rfl rfl rfl
    have hu : Transition { s with script := rest } u := transition_execStep hs he
    exact hu
  · have hs : ControlInv { s with free := s.free + 1 } := h.congr rfl rfl rfl
    have hu : Transition { s with free := s.free + 1 } t := transition_agentStep hs ha
    exact hu

/-- Settles O48: of a block that exists, no row of the table leads out of `HALTED`, and the only one
out of `SHUTTING_DOWN` leads to `HALTED`. -/
theorem teardownIsFinal : Obligations.TeardownIsFinal := by
  unfold Obligations.TeardownIsFinal
  intro s t h hb hstep
  have htable := stateTransitions s t h hstep
  refine ⟨fun hc => ?_, fun hc => ?_⟩
  · by_contra hne
    simp [hb, hc, hne] at htable
  · by_contra hne
    rw [not_or] at hne
    simp [hb, hc, hne] at htable

/-! ## The end of a roll -/

/-- A roll is left for `IDLE` by its last action only (R180, R231). -/
theorem actionStep_rolling_to_idle {s t : State} (h : ActionStep s t) (hs : s.cst = .rolling)
    (ht : t.cst = .idle) : t = returnToIdle s ∧ s.rpc.val = 50 := by
  have hkept {u : State} (hu : u.cst = s.cst) (hi : u.cst = .idle) : False := by
    simp [hu, hs] at hi
  cases h with
  | rollEnd _ hr => exact ⟨rfl, hr⟩
  | same | term | tick | rollOther => exact (hkept rfl ht).elim
  | resetCall => exact (hkept (callStep_cst _ s (by simp) (by simp)) ht).elim
  | showCall => exact (hkept (callStep_cst _ s (by simp) (by simp)) ht).elim
  | enterShutdown _ hc => rcases hc with hc | hc <;> simp [hs] at hc
  | endInit hc | enterRoll hc | arm hc | setupEnd hc | halt hc => simp [hs] at hc

/-- Settles O60: the last display call of the roll has brought the final digit to the display, which the
last action leaves alone; the rest are the two invariants, in `IDLE`. -/
theorem rollEndsShowingFinalDigit : Obligations.RollEndsShowingFinalDigit := by
  unfold Obligations.RollEndsShowingFinalDigit
  intro s t ho hi h hstep hs ht
  have hit : ControlInv t := controlInvKept s t hi hstep
  obtain ⟨-, hlt⟩ := lineInvKept s t ho hi h hstep
  obtain ⟨hflight, -⟩ := hit.quiet_of_uninit_or_idle (.inr ht)
  obtain ⟨-, hclock, hlatch, -⟩ := hlt.known ⟨hflight, .inl ht⟩
  have hbusy : t.busy = false := (hit.armed_not_busy_iff.mpr ht).2
  refine ⟨?_, hbusy, hclock, hlatch⟩
  obtain ⟨-, r, n, u, ha, e⟩ := step_own_cases ho hstep
  simp only [lineView, frameView, Prod.mk.injEq] at e
  obtain ⟨⟨-, -, -, -, hq, -⟩, -, -, hcst, -, -, -, hfinal⟩ := e
  have hi' : ControlInv { s with script := r, free := n } := hi.congr rfl rfl rfl
  obtain ⟨rfl, hr⟩ :=
    actionStep_rolling_to_idle (actionStep_of_agentStep hi' ha) hs (hcst.symm.trans ht)
  obtain ⟨hidle, -⟩ := hi.quiet (by simp [AtReset, hs]) (not_atShow_of_last hr)
  rw [hq, hfinal]
  exact (h.roll_end hs hidle hr).trans (patternOf_digit _)

end Sys2Proof.Safety

namespace Sys2Proof.Safety

open Sys2Proof.Machine

/-! ## What each operation of the controller does where it is enabled -/

section
variable {s : State}

theorem exec_setup_of_setup (hc : s.cst = .setup) : exec .setup s = .next (setupStep s) := by
  simp [exec, execSetup, hc]

theorem exec_shutdown_of_shuttingDown (hc : s.cst = .shuttingDown) :
    exec .shutdown s = .next (shutdownStep s) := by
  simp [exec, execShutdown, hc]

theorem exec_roll_of_rolling (hc : s.cst = .rolling) : exec .roll s = .next (rollStep s) := by
  simp [exec, execRoll, hc]

/-- Where a termination is acted on (R179; log entry 16). -/
theorem shutdownEnabled_iff :
    shutdownEnabled s = true ↔ s.termPending = true ∧ (s.cst = .uninit ∨ s.cst = .idle) := by
  simp [shutdownEnabled]

theorem exec_shutdown_of_enabled (h : shutdownEnabled s = true) :
    exec .shutdown s = .next (enterShutdown s) := by
  obtain ⟨-, hc⟩ := shutdownEnabled_iff.mp h
  have hne : s.cst ≠ .shuttingDown := by rcases hc with hc | hc <;> simp [hc]
  simp [exec, execShutdown, hne, h]

theorem exec_tick_eq (s : State) :
    exec .tick s = .next (if tickEnabled s then await .lifecycle s.cfg.tick s else s) := rfl

theorem exec_press_of_accepted (ha : s.armed = true) (hb : s.busy = false) :
    exec .press s = .next (enterRoll s) := by
  simp [exec, execPress, pressAccepted, ha, hb]

theorem exec_press_of_not_accepted (h : s.armed = false ∨ s.busy = true) :
    exec .press s = .next s := by
  rcases h with h | h <;> simp [exec, execPress, pressAccepted, h]

end

/-- Settles O33. -/
theorem tickOnlyWaits : Obligations.TickOnlyWaits := by
  unfold Obligations.TickOnlyWaits
  intro s hc
  have htick : tickEnabled s = true := by simpa [tickEnabled] using hc
  rw [exec_tick_eq, if_pos htick]
  rfl

/-- Settles O34. -/
theorem releaseDoesNothing : Obligations.ReleaseDoesNothing := by
  unfold Obligations.ReleaseDoesNothing
  exact fun _ => rfl

/-- Settles O35. -/
theorem pressGuard : Obligations.PressGuard := by
  unfold Obligations.PressGuard
  exact fun s => ⟨exec_press_of_accepted, exec_press_of_not_accepted⟩

/-- Settles O42: in `ROLLING` the block is busy, so each of the presses is dropped. -/
theorem pressesAreNotQueued : Obligations.PressesAreNotQueued := by
  unfold Obligations.PressesAreNotQueued
  intro s k h hc
  have hpress : exec .press s = .next s :=
    exec_press_of_not_accepted (.inr (h.busy_iff.mpr (.inr (.inr hc))))
  induction k with
  | zero => rfl
  | succ k ih => simpa only [repeatOp, hpress] using ih

/-- Settles O41. -/
theorem notEnabledChangesNothing : Obligations.NotEnabledChangesNothing := by
  unfold Obligations.NotEnabledChangesNothing
  intro s
  refine ⟨fun hc => ?_, fun hc => ?_, fun hi hr => ?_, fun hc hdis => ?_⟩
  · simp [exec, execSetup, hc]
  · simp [exec, execRoll, hc]
  · have htick : ¬ tickEnabled s = true := by simp [tickEnabled, hi, hr]
    rw [exec_tick_eq, if_neg htick]
  · have hno : ¬ shutdownEnabled s = true := by
      rw [shutdownEnabled_iff]
      rintro ⟨hp, hcst⟩
      rcases hdis with hdis | ⟨hu, hi⟩
      · simp [hp] at hdis
      · exact hcst.elim hu hi
    simp [exec, execShutdown, hc, hno]

/-- Settles O28. -/
theorem powerOnConstructs : Obligations.PowerOnConstructs := by
  unfold Obligations.PowerOnConstructs
  intro c s hb hlegal
  refine ⟨construct (Config.resolve c) s, ?_, ?_⟩
  · rw [exec_poweron_of_legal hlegal, if_neg (by simp [hb])]
  · and_intros <;> rfl

/-! ## The lifecycle agent -/

/-- The agent that does not act on a termination, by the state of the controller, of a block that
exists (R171). -/
theorem lifecycleMove_false {s : State} (hb : s.built = true) :
    (s.cst = .uninit → lifecycleMove false s = .next (endInitDelay s)) ∧
    (s.cst = .setup → lifecycleMove false s = exec .setup s) ∧
    (s.cst = .idle ∨ s.cst = .rolling → lifecycleMove false s = exec .tick s) ∧
    (s.cst = .shuttingDown → lifecycleMove false s = exec .shutdown s) ∧
    (s.cst = .halted → lifecycleMove false s = .next s) := by
  cases hc : s.cst <;> simp [lifecycleMove, hb, hc]

/-- Outside `UNINIT` and `IDLE` the agent cannot act on a termination (R178; log entry 16). -/
theorem lifecycleMove_of_not_stopping {s : State} (hu : s.cst ≠ .uninit) (hi : s.cst ≠ .idle)
    (stop : Bool) : lifecycleMove stop s = lifecycleMove false s := by
  have hno : shutdownEnabled s = false := by simp [shutdownEnabled, hu, hi]
  simp [lifecycleMove, hno]

/-- Acting on a termination is the operation `SHUTDOWN` (R178, R179). -/
theorem lifecycleMove_of_stopping {s : State} (hb : s.built = true)
    (h : shutdownEnabled s = true) : lifecycleMove true s = exec .shutdown s := by
  simp [lifecycleMove, hb, h]

/-- Settles O9. -/
theorem lifecycleAgentMoves : Obligations.LifecycleAgentMoves := by
  unfold Obligations.LifecycleAgentMoves
  intro s hb
  obtain ⟨huninit, hsetup, htick, hdown, hhalted⟩ := lifecycleMove_false hb
  have hany (hu : s.cst ≠ .uninit) (hi : s.cst ≠ .idle) (stop : Bool) :
      lifecycleMove stop s = lifecycleMove false s := lifecycleMove_of_not_stopping hu hi stop
  refine ⟨huninit, fun hc stop => ?_, fun hc => htick (.inl hc), fun hc stop => ?_,
    fun hc stop => ?_, fun hc stop => ?_, fun hp hc => ?_⟩
  · rw [hany (by simp [hc]) (by simp [hc]), hsetup hc]
  · rw [hany (by simp [hc]) (by simp [hc]), htick (.inr hc)]
  · rw [hany (by simp [hc]) (by simp [hc]), hdown hc]
  · rw [hany (by simp [hc]) (by simp [hc]), hhalted hc]
  · exact lifecycleMove_of_stopping hb (shutdownEnabled_iff.mpr ⟨hp, hc⟩)

/-- Settles O36. -/
theorem termSetsPending : Obligations.TermSetsPending := by
  unfold Obligations.TermSetsPending
  intro s
  refine ⟨rfl, fun hp => ?_, lifecycleMove_of_not_stopping, fun hb hp hc => ?_⟩
  · have hterm : exec .term s = .next { s with termPending := true } := rfl
    rw [hterm, ← hp]
  · have hon : shutdownEnabled s = true := shutdownEnabled_iff.mpr ⟨hp, hc⟩
    rw [lifecycleMove_of_stopping hb hon, exec_shutdown_of_enabled hon]
    rfl

/-- Settles O6. -/
theorem stepEndsInitDelay : Obligations.StepEndsInitDelay := by
  unfold Obligations.StepEndsInitDelay
  intro s w rest hs hd hb hc
  have hwait : waitingStep .setup s = some (endInitDelay s) := by
    simp [waitingStep, isDisplayCall, hb, hc]
  have hstep : step s = .next (endInitDelay s) := by simp [step, advance, hs, hd, hwait]
  exact hstep

/-! ## The actions of `SETUP` and `SHUTDOWN` -/

/-- The call of `RESET` performs the data write of its opening `LINES_OFF` (R153, R154). -/
theorem callStep_startReset {c : Caller} {done : State → State} {s : State}
    (hf : s.flight = .idle) : callStep c startReset done s =
      { lineWrite .data false s with flight := .linesOff .clock false } := by
  simp [callStep, hf, startReset, displayStep, afterLineOff, lineWrite, driveLine, garble]

theorem exec_setup_atReset {s : State} (hc : s.cst = .setup) (hl : s.lpc = 0) :
    exec .setup s = .next (callStep .lifecycle startReset advanceLpc s) := by
  simp [exec_setup_of_setup hc, setupStep, hl]

theorem exec_shutdown_atReset {s : State} (hc : s.cst = .shuttingDown) (hl : s.lpc = 1) :
    exec .shutdown s = .next (callStep .lifecycle startReset advanceLpc s) := by
  simp [exec_shutdown_of_shuttingDown hc, shutdownStep, hl]

/-- Settles O31. -/
theorem setupActions : Obligations.SetupActions := by
  unfold Obligations.SetupActions
  intro s hc
  refine ⟨fun hl hf => ?_, fun hl => ?_, fun hl => ?_⟩
  · rw [exec_setup_atReset hc hl, callStep_startReset hf]
    rfl
  · simp [exec_setup_of_setup hc, setupStep, hl, advanceLpc, bump]
  · simp [exec_setup_of_setup hc, setupStep, hl, returnToIdle]

/-- Settles O32. -/
theorem shutdownActions : Obligations.ShutdownActions := by
  unfold Obligations.ShutdownActions
  intro s
  refine ⟨fun hp hc => ?_, fun hc hl hf => ?_, fun hc hl => ?_⟩
  · exact exec_shutdown_of_enabled (shutdownEnabled_iff.mpr ⟨hp, hc⟩)
  · rw [exec_shutdown_atReset hc hl, callStep_startReset hf]
    rfl
  · simp [exec_shutdown_of_shuttingDown hc, shutdownStep, hl]

/-! ## The actions of the roll program -/

theorem rollSleeps_eq : rollSleeps = [5, 10, 20, 40, 80, 160, 320, 640, 1280,
    500, 500, 500, 500, 500, 500, 500, 500, 500, 500] := by
  decide

/-- Settles O40. -/
theorem rollShows : Obligations.RollShows := by
  unfold Obligations.RollShows
  intro s
  refine ⟨fun k hk hr => ?_, fun j hj hr => ?_, fun j hj hr => ?_, fun hr => ?_⟩
  · simp [calledPattern, rollAction_showSpin hk hr, isCallAction]
  · simp [calledPattern, rollAction_blinkShow hj hr, isCallAction]
  · simp [calledPattern, rollAction_blinkBlank hj hr, isCallAction, Config.blank]
  · simp [calledPattern, rollAction_lastShow hr, isCallAction]

/-- `ROLL` at a sleep (R180, R182). -/
theorem exec_roll_of_sleep {s : State} {d : Duration} (hc : s.cst = .rolling)
    (ha : rollAction s.rpc = .sleep d) :
    exec .roll s = .next { s with
      rpc := bump s.rpc
      waited := { s.waited with roll := s.waited.roll + d } } := by
  rw [exec_roll_of_rolling hc, rollStep, ha]
  rfl

/-- Settles O39. -/
theorem rollActions : Obligations.RollActions := by
  unfold Obligations.RollActions
  intro s hc
  have hroll := exec_roll_of_rolling hc
  refine ⟨fun hr => ?_, fun k hk hr => ⟨?_, ?_⟩, fun k hk hr => ⟨?_, ?_⟩, fun j hj hr => ⟨?_, ?_⟩,
    fun hr => ?_⟩
  · rw [hroll, rollStep, hr]
    simp [rollAction, advanceRpc, drawFinalDigit, hr, bump]
  · rw [hroll, rollStep, rollAction_drawSpin hk hr]
    rfl
  · rw [bump_val _ (by omega)]
    omega
  · have hd : spinDelay k = 5 * 2 ^ k := by simp [spinDelay]
    rw [exec_roll_of_sleep hc (rollAction_spinSleep hk hr), hd]
  · rw [bump_val _ (by omega)]
    omega
  · exact exec_roll_of_sleep hc (hr.elim (rollAction_blinkOnSleep hj) (rollAction_blinkOffSleep hj))
  · rw [bump_val _ (by omega)]
  · rw [hroll, rollStep, (rollAction_finish_iff _).mpr (by simp [hr])]
    rfl

end Sys2Proof.Safety

namespace Sys2Proof

/-- Settles O38. -/
theorem rollSleeps : Obligations.RollSleeps := by
  unfold Obligations.RollSleeps
  rw [Safety.rollSleeps_eq]
  norm_num

end Sys2Proof

namespace Sys2Proof.Safety

open Sys2Proof.Machine

/-! ## A `RESET` that the controller calls, one micro-step a step -/

/-- The executions after the first, if it went on. -/
theorem repeatOp_succ_of_exec {i : Instr} {s t : State} (h : exec i s = .next t) (n : Nat) :
    repeatOp i (n + 1) s = repeatOp i n t := by
  simp only [repeatOp, h]

/-- The executions after `m` that went on. -/
theorem repeatOp_add_of_next {i : Instr} {m : Nat} {s t : State} (h : repeatOp i m s = .next t)
    (n : Nat) : repeatOp i (m + n) s = repeatOp i n t := by
  induction m generalizing s with
  | zero =>
    cases h
    rw [Nat.zero_add]
  | succ m ih =>
    rw [Nat.succ_add]
    rw [repeatOp] at h ⊢
    split at h
    next u hu => simpa only [hu] using ih h
    next hn => exact absurd h (hn t)

/-- The three writes of a `LINES_OFF` of `RESET` (R154). -/
theorem displayStep_linesOff_thrice (c : Caller) {s : State} {b : Bool}
    (h : s.flight = .linesOff .data b) :
    (displayStep c)^[3] s = { linesOff s with flight := afterLineOff .latch b } := by
  rw [Function.iterate_succ_apply, displayStep_linesOff c s .data b h, Function.iterate_succ_apply,
    displayStep_linesOff c _ .clock b rfl, Function.iterate_succ_apply,
    displayStep_linesOff c _ .latch b rfl]
  rfl

/-- A micro-step of the frame of a `RESET`; with the last one the closing `LINES_OFF` is due (R153). -/
theorem displayStep_resetFrame (c : Caller) (p : Byte) {s : State} (hf : s.flight = .frame true)
    {k : Nat} (hk : k < 47) :
    displayStep c (frameAfter c p s k) =
      { frameAfter c p s (k + 1) with
        flight := if k = 46 then .linesOff .data true else .frame true } := by
  have hspc : (frameAfter c p s k).spc.val = k := iterate_frameStep_spc c p s k (by omega)
  have hflight : (frameAfter c p s k).flight = .frame true :=
    (iterate_field _ (·.flight) (by simp) k _).trans hf
  have henter : enterDueFrame (frameAfter c p s k) = frameAfter c p s k :=
    if_pos (frameAfter_sact c p s hk)
  have hnext : frameStep c (frameAfter c p s k) = frameAfter c p s (k + 1) :=
    (Function.iterate_succ_apply' _ _ _).symm
  rw [displayStep_frame c _ true hflight, henter, hnext]
  simp [hspc]

/-- Once entered, the frame of a `RESET` runs like any other (R130, R153). -/
theorem iterate_displayStep_resetFrame (c : Caller) (p : Byte) {s : State}
    (hf : s.flight = .frame true) {k : Nat} (hk : k ≤ 46) :
    (displayStep c)^[k] (beginFrame p s) = frameAfter c p s k := by
  induction k with
  | zero => rfl
  | succ k ih =>
    have hflight : (frameAfter c p s (k + 1)).flight = .frame true :=
      (iterate_field _ (·.flight) (by simp) (k + 1) _).trans hf
    rw [Function.iterate_succ_apply', ih (by omega), displayStep_resetFrame c p hf (by omega),
      if_neg (by omega), ← hflight]

/-- The frame of a `RESET`, from where it is due to the closing `LINES_OFF` (R153). -/
theorem displayStep_dueFrame (c : Caller) {s : State} (hf : s.flight = .frame true)
    (hs : s.sact = false) :
    (displayStep c)^[47] s = { sendFrame c Config.blank s with flight := .linesOff .data true } := by
  have hdue : enterDueFrame s = beginFrame Config.blank s := if_neg (by simp [hs])
  have hfirst : displayStep c s = displayStep c (beginFrame Config.blank s) := by
    rw [displayStep_frame c s true hf, displayStep_frame c (beginFrame Config.blank s) true hf, hdue]
    rfl
  rw [Function.iterate_succ_apply, hfirst, ← Function.iterate_succ_apply,
    Function.iterate_succ_apply', iterate_displayStep_resetFrame c _ hf le_rfl,
    displayStep_resetFrame c _ hf (by omega), if_pos rfl]
  rfl

/-- The state after `k` micro-steps of a `RESET` that the controller has called from `s` (R150). -/
def resetAfter (s : State) (k : Nat) : State := (displayStep .lifecycle)^[k] (startReset s)

theorem resetAfter_add (s : State) (m k : Nat) :
    resetAfter s (m + k) = (displayStep .lifecycle)^[m] (resetAfter s k) :=
  Function.iterate_add_apply _ _ _ _

theorem resetAfter_succ (s : State) (k : Nat) :
    resetAfter s (k + 1) = displayStep .lifecycle (resetAfter s k) :=
  Function.iterate_succ_apply' _ _ _

section
variable {s : State}

/-- After its opening `LINES_OFF` and its frame the closing `LINES_OFF` of a `RESET` is due (R153). -/
theorem resetAfter_closing (hs : s.sact = false) : resetAfter s 50 =
    { sendFrame .lifecycle Config.blank { linesOff s with flight := .frame true } with
      flight := .linesOff .data true } := by
  have hopening : (displayStep .lifecycle)^[3] (startReset s) =
      { linesOff s with flight := .frame true } := by
    rw [displayStep_linesOff_thrice .lifecycle (b := false) rfl]
    rfl
  have hsact : (linesOff s).sact = false := (linesOff_sact s).trans hs
  rw [resetAfter_add s 47 3, resetAfter, hopening]
  exact displayStep_dueFrame .lifecycle rfl hsact

/-- The 53 micro-steps of a `RESET` are a whole `RESET` (R150, R153). -/
theorem resetAfter_last (hs : s.sact = false) (hf : s.flight = .idle) : resetAfter s 53 =
    linesOff (sendFrame .lifecycle Config.blank (linesOff s)) := by
  have hclosing : resetAfter s 53 = { linesOff (resetAfter s 50) with flight := .idle } := by
    have hdue : (resetAfter s 50).flight = .linesOff .data true := by rw [resetAfter_closing hs]
    rw [resetAfter_add s 3 50]
    exact displayStep_linesOff_thrice .lifecycle hdue
  rw [hclosing, resetAfter_closing hs, sendFrame_of_clockLow _ _ rfl,
    sendFrame_of_clockLow _ _ (s := linesOff s) rfl, ← hf]
  rfl

/-- Before its last micro-step a `RESET` is in flight: what has ended stays so (R150). -/
theorem resetAfter_flight (hs : s.sact = false) {k : Nat} (hk : k ≤ 52) :
    (resetAfter s k).flight ≠ .idle := by
  intro hidle
  have hstays (n : Nat) : resetAfter s (k + n) = resetAfter s k := by
    induction n with
    | zero => rfl
    | succ n ih => rw [← Nat.add_assoc, resetAfter_succ, ih, displayStep_idle _ hidle]
  have hlast : (resetAfter s 52).flight = .linesOff .latch true := by
    rw [resetAfter_succ, resetAfter_succ, resetAfter_closing hs]
    rfl
  rw [← Nat.add_sub_cancel' hk, hstays, hidle] at hlast
  cases hlast

/-- A `RESET` writes no register of the controller (R129). -/
theorem resetAfter_position (s : State) (k : Nat) :
    (resetAfter s k).cst = s.cst ∧ (resetAfter s k).lpc = s.lpc := by
  have h : ((resetAfter s k).cst, (resetAfter s k).lpc) = (s.cst, s.lpc) :=
    iterate_field _ (fun u => (u.cst, u.lpc)) (by simp) k _
  exact Prod.mk.inj h

/-- The executions of an operation whose action is a call of `RESET` are its micro-steps, and the 53rd
ends the action (R150, R174, R179). -/
theorem repeatOp_resetCall {i : Instr} (hq : inFlight s = false)
    (hexec : ∀ u : State, u.cst = s.cst → u.lpc = s.lpc →
      exec i u = .next (callStep .lifecycle startReset advanceLpc u)) :
    repeatOp i 53 s =
      .next (advanceLpc (linesOff (sendFrame .lifecycle Config.blank (linesOff s)))) := by
  obtain ⟨hs, hf⟩ := (inFlight_eq_false_iff s).mp hq
  have hmicro {k : Nat} (hk : k ≤ 52) :
      callStep .lifecycle startReset advanceLpc (resetAfter s k) =
        if (resetAfter s (k + 1)).flight = .idle then advanceLpc (resetAfter s (k + 1))
        else resetAfter s (k + 1) := by
    simp only [callStep, if_neg (resetAfter_flight hs hk), ← resetAfter_succ]
  have hrun {k : Nat} (hk : k ≤ 52) : repeatOp i (k + 1) s =
      .next (callStep .lifecycle startReset advanceLpc (resetAfter s k)) := by
    induction k with
    | zero =>
      rw [repeatOp_succ_of_next rfl, hexec s rfl rfl, callStep_of_idle _ _ _ hf (by simp)]
      rfl
    | succ k ih =>
      obtain ⟨hcst, hlpc⟩ := resetAfter_position s (k + 1)
      have hgo := ih (by omega)
      rw [hmicro (by omega), if_neg (resetAfter_flight hs hk)] at hgo
      rw [repeatOp_succ_of_next hgo, hexec _ hcst hlpc]
  have hend : (resetAfter s 53).flight = .idle := by rw [resetAfter_last hs hf, resetCall_eq, hf]
  rw [hrun le_rfl, hmicro le_rfl, if_pos hend, resetAfter_last hs hf]

end

/-! ## The whole programs of `SETUP` and `SHUTDOWN` -/

/-- Settles O25. -/
theorem setupRunsToIdle : Obligations.SetupRunsToIdle := by
  unfold Obligations.SetupRunsToIdle
  intro s hc hl hq
  have hreset := repeatOp_resetCall hq fun u hcu hlu =>
    exec_setup_atReset (s := u) (hcu.trans hc) (hlu.trans hl)
  rw [resetCall_eq] at hreset
  set t := advanceLpc _ with ht
  have hlt : t.lpc = 1 := by rw [ht, advanceLpc_lpc, hl]; rfl
  obtain ⟨-, harm, -⟩ := setupActions t hc
  obtain ⟨-, -, hidle⟩ := setupActions { t with armed := true, lpc := 2 } hc
  rw [repeatOp_succ_of_next ((repeatOp_succ_of_next hreset).trans (harm hlt)), hidle rfl]
  rfl

/-- Settles O26. -/
theorem shutdownRunsToHalted : Obligations.ShutdownRunsToHalted := by
  unfold Obligations.ShutdownRunsToHalted
  intro s hc hp hq
  have hbegin := exec_shutdown_of_enabled (shutdownEnabled_iff.mpr ⟨hp, hc⟩)
  have hreset := repeatOp_resetCall (s := enterShutdown s) hq fun _ => exec_shutdown_atReset
  rw [resetCall_eq] at hreset
  set t := advanceLpc _
  obtain ⟨-, -, hhalt⟩ := shutdownActions t
  rw [repeatOp_succ_of_exec hbegin, repeatOp_succ_of_next hreset, hhalt rfl rfl]
  rfl

end Sys2Proof.Safety

namespace Sys2Proof.Safety

open Sys2Proof.Machine

/-! ## The whole roll -/

/-- The roll is about to perform an action of its program, with the clock low (R180, R262). -/
def AtAction (s : State) : Prop := s.cst = .rolling ∧ inFlight s = false ∧ s.clock = false

/-- What a stretch of the roll with a display call in it has done: `p` is on the display, waits of `d` in
sum have ended, and `RPC` is `r` (R128, R180). -/
def shownUntil (p : Byte) (d : Duration) (r : Fin 51) (s : State) : State :=
  { s with
    data := p.getLsbD 7, clock := false, latch := false
    sr := p, q := p, pat := p, sact := false, spc := 46, garbled := false
    rpc := r
    waited := { s.waited with roll := s.waited.roll + d } }

/-- A spin digit has been drawn, the free value at `n` (R183; log entry 7). -/
def spinDrawn (n : Nat) (s : State) : State := { s with rtmp := Config.draw n, free := n + 1 }

section
variable (p : Byte) (d : Duration) (r : Fin 51) (s : State)

@[simp] theorem shownUntil_rpc : (shownUntil p d r s).rpc = r := rfl
@[simp] theorem shownUntil_cfg : (shownUntil p d r s).cfg = s.cfg := rfl

theorem spinDrawn_shownUntil (n : Nat) :
    spinDrawn n (shownUntil p d r s) = shownUntil p d r (spinDrawn n s) := rfl

/-- Of two stretches the second leaves its pattern and its position, and the waits add up. -/
theorem shownUntil_shownUntil (p' : Byte) (d' : Duration) (r' : Fin 51) :
    shownUntil p' d' r' (shownUntil p d r s) = shownUntil p' (d + d') r' s := by
  simp [shownUntil, add_assoc]

theorem atAction_shownUntil {s : State} (h : AtAction s) : AtAction (shownUntil p d r s) := by
  obtain ⟨hc, hq, -⟩ := h
  obtain ⟨-, hflight⟩ := (inFlight_eq_false_iff s).mp hq
  exact ⟨hc, (inFlight_eq_false_iff _).mpr ⟨rfl, hflight⟩, rfl⟩

end

section
variable {s : State} (h : AtAction s)
include h

/-- A display call of the roll, at the position before `r` (R150, R180). -/
theorem repeatOp_roll_call {r : Fin 51} (hcall : isCallAction (rollAction s.rpc) = true)
    (hr : r.val = s.rpc.val + 1) :
    repeatOp .roll 47 s = .next (shownUntil (calledPattern s) (20 * s.cfg.bitDelay) r s) := by
  obtain ⟨hc, hq, hclk⟩ := h
  have hbump : bump s.rpc = r := Fin.ext (by rw [bump_val _ (by omega), hr])
  rw [rollCallSendsFrame s hc hcall hq hclk, hbump]
  rfl

/-- A display call and the sleep that follows it, at the two positions before `r` (R180, R182). -/
theorem repeatOp_roll_callThenSleep {r' r : Fin 51} {d : Duration}
    (hcall : isCallAction (rollAction s.rpc) = true) (hr' : r'.val = s.rpc.val + 1)
    (hsleep : rollAction r' = .sleep d) (hr : r.val = r'.val + 1) :
    repeatOp .roll 48 s =
      .next (shownUntil (calledPattern s) (20 * s.cfg.bitDelay + d) r s) := by
  have hbump : bump r' = r := Fin.ext (by rw [bump_val _ (by omega), hr])
  rw [repeatOp_succ_of_next (repeatOp_roll_call h hcall hr'),
    exec_roll_of_sleep (atAction_shownUntil _ _ _ h).1 hsleep]
  simp [shownUntil, hbump, add_assoc]

/-- Spin step `k`: a draw, the display call of that digit, a sleep (R180, R182). -/
theorem repeatOp_roll_spin {k : Nat} (hk : k < 9) (hs : s.rpc.val = 2 + 3 * k) {r : Fin 51}
    (hr : r.val = 5 + 3 * k) :
    repeatOp .roll 49 s = .next (shownUntil (Config.glyph (Config.draw s.free))
      (20 * s.cfg.bitDelay + 5 * 2 ^ k) r (spinDrawn s.free s)) := by
  obtain ⟨-, hspin, -⟩ := rollActions s h.1
  obtain ⟨hdraw, hnext⟩ := hspin k hk hs
  set u : State := { s with
    rtmp := Config.draw s.free, free := s.free + 1, rpc := bump s.rpc }
  have hu : AtAction u := h
  have hrpc : u.rpc.val = 3 + 3 * k := hnext
  obtain ⟨hspinDigit, -⟩ := rollShows u
  obtain ⟨hcall, hpat⟩ := hspinDigit k hk hrpc
  let r' : Fin 51 := ⟨4 + 3 * k, by omega⟩
  have hsleep : rollAction r' = .sleep (5 * 2 ^ k) := by
    simp [rollAction_spinSleep hk (r := r') rfl, spinDelay]
  rw [repeatOp_succ_of_exec hdraw, repeatOp_roll_callThenSleep hu (r := r) hcall
    (by simp only [r']; omega) hsleep (by simp only [r']; omega), hpat]
  rfl

/-- The first `k + 1` spin steps (R180, R184). -/
theorem repeatOp_roll_spins (hs : s.rpc.val = 2) {k : Nat} (hk : k < 9) {r : Fin 51}
    (hr : r.val = 5 + 3 * k) :
    repeatOp .roll (49 * (k + 1)) s =
      .next (shownUntil (Config.glyph (Config.draw (s.free + k)))
        ((k + 1 : Nat) * (20 * s.cfg.bitDelay) + 5 * (2 ^ (k + 1) - 1)) r
        (spinDrawn (s.free + k) s)) := by
  induction k generalizing r with
  | zero =>
    rw [repeatOp_roll_spin h hk hs hr]
    norm_num
  | succ k ih =>
    have hat : AtAction (spinDrawn (s.free + k) s) := h
    have hwait : (k + 1 : Nat) * (20 * s.cfg.bitDelay) + 5 * (2 ^ (k + 1) - 1) +
        (20 * s.cfg.bitDelay + 5 * 2 ^ (k + 1)) =
        (k + 1 + 1 : Nat) * (20 * s.cfg.bitDelay) + 5 * (2 ^ (k + 1 + 1) - 1) := by
      push_cast
      ring
    rw [Nat.mul_succ, repeatOp_add_of_next (ih (by omega) (r := ⟨5 + 3 * k, by omega⟩) rfl),
      repeatOp_roll_spin (atAction_shownUntil _ _ _ hat) hk ?_ hr, spinDrawn_shownUntil,
      shownUntil_shownUntil, ← hwait]
    · rfl
    · simp only [shownUntil_rpc]
      omega

/-- One blink cycle: the final digit, a sleep, blank, a sleep (R180, R182). -/
theorem repeatOp_roll_blink {j : Nat} (hj : j < 5) (hs : s.rpc.val = 29 + 4 * j) {r : Fin 51}
    (hr : r.val = 33 + 4 * j) :
    repeatOp .roll 96 s =
      .next (shownUntil Config.blank (40 * s.cfg.bitDelay + 1000) r s) := by
  let r₁ : Fin 51 := ⟨30 + 4 * j, by omega⟩
  let r₂ : Fin 51 := ⟨31 + 4 * j, by omega⟩
  let r₃ : Fin 51 := ⟨32 + 4 * j, by omega⟩
  obtain ⟨-, hfinal, -⟩ := rollShows s
  have hwait : 20 * s.cfg.bitDelay + 500 + (20 * s.cfg.bitDelay + 500) =
      40 * s.cfg.bitDelay + 1000 := by ring
  have hon := repeatOp_roll_callThenSleep h (r' := r₁) (r := r₂) (hfinal j hj hs).1
    (by simp only [r₁]; omega) (rollAction_blinkOnSleep hj rfl) (by simp only [r₁, r₂]; omega)
  obtain ⟨-, -, hblank, -⟩ :=
    rollShows (shownUntil (calledPattern s) (20 * s.cfg.bitDelay + 500) r₂ s)
  obtain ⟨hcall, hpat⟩ := hblank j hj rfl
  rw [repeatOp_add_of_next hon 48, repeatOp_roll_callThenSleep (atAction_shownUntil _ _ _ h)
    (r' := r₃) (r := r) hcall (by simp only [shownUntil_rpc, r₂, r₃]; omega)
    (rollAction_blinkOffSleep hj rfl) (by simp only [r₃]; omega), hpat, shownUntil_shownUntil,
    shownUntil_cfg, hwait]
  rfl

/-- The first `j + 1` blink cycles (R180, R184). -/
theorem repeatOp_roll_blinks (hs : s.rpc.val = 29) {j : Nat} (hj : j < 5) {r : Fin 51}
    (hr : r.val = 33 + 4 * j) :
    repeatOp .roll (96 * (j + 1)) s =
      .next (shownUntil Config.blank ((j + 1 : Nat) * (40 * s.cfg.bitDelay + 1000)) r s) := by
  induction j generalizing r with
  | zero =>
    rw [repeatOp_roll_blink h hj hs hr]
    norm_num
  | succ j ih =>
    have hwait : (j + 1 : Nat) * (40 * s.cfg.bitDelay + 1000) + (40 * s.cfg.bitDelay + 1000) =
        (j + 1 + 1 : Nat) * (40 * s.cfg.bitDelay + 1000) := by
      push_cast
      ring
    rw [Nat.mul_succ, repeatOp_add_of_next (ih (by omega) (r := ⟨33 + 4 * j, by omega⟩) rfl),
      repeatOp_roll_blink (atAction_shownUntil _ _ _ h) hj ?_ hr, shownUntil_shownUntil,
      shownUntil_cfg, hwait]
    simp only [shownUntil_rpc]
    omega

/-- The five blink cycles and the last display call (R180, R184). -/
theorem repeatOp_roll_endingCalls (hs : s.rpc.val = 29) :
    repeatOp .roll 527 s = .next (shownUntil (Config.glyph s.finalDigit)
      (5000 + 220 * s.cfg.bitDelay) 50 s) := by
  have hblinks := repeatOp_roll_blinks h hs (j := 4) (by omega) (r := 49) rfl
  have hwait : (4 + 1 : Nat) * (40 * s.cfg.bitDelay + 1000) + 20 * s.cfg.bitDelay =
      5000 + 220 * s.cfg.bitDelay := by
    push_cast
    ring
  set t := shownUntil Config.blank ((4 + 1 : Nat) * (40 * s.cfg.bitDelay + 1000)) 49 s with ht
  have hat : AtAction t := atAction_shownUntil _ _ _ h
  obtain ⟨-, -, -, hfinal⟩ := rollShows t
  obtain ⟨hcall, hpat⟩ := hfinal rfl
  rw [repeatOp_add_of_next hblinks 47, repeatOp_roll_call hat (r := 50) hcall rfl, hpat, ht,
    shownUntil_shownUntil, shownUntil_cfg, hwait]
  rfl

/-- From the first spin step to the last display call (R180, R184). -/
theorem repeatOp_roll_allCalls (hs : s.rpc.val = 2) :
    repeatOp .roll 968 s = .next (shownUntil (Config.glyph s.finalDigit)
      (7555 + 400 * s.cfg.bitDelay) 50 (spinDrawn (s.free + 8) s)) := by
  have hspins := repeatOp_roll_spins h hs (k := 8) (by omega) (r := 29) rfl
  have hwait : (8 + 1 : Nat) * (20 * s.cfg.bitDelay) + 5 * (2 ^ (8 + 1) - 1) +
      (5000 + 220 * s.cfg.bitDelay) = 7555 + 400 * s.cfg.bitDelay := by
    push_cast
    ring
  have hdrawn : AtAction (spinDrawn (s.free + 8) s) := h
  have hat (p : Byte) (d : Duration) : AtAction (shownUntil p d 29 (spinDrawn (s.free + 8) s)) :=
    atAction_shownUntil p d 29 hdrawn
  rw [repeatOp_add_of_next hspins 527, repeatOp_roll_endingCalls (hat _ _) rfl,
    shownUntil_shownUntil, ← hwait]
  rfl

end

/-- Settles O27: the draw of the final digit, the stretch from the first spin step to the last display
call, and the return to `IDLE`. -/
theorem rollRunsToFinalDigit : Obligations.RollRunsToFinalDigit := by
  unfold Obligations.RollRunsToFinalDigit
  intro s hc hr hq hclk
  obtain ⟨hdraw, -⟩ := rollActions s hc
  set t : State := { s with finalDigit := Config.draw s.free, free := s.free + 1, rpc := 2 }
  have hat : AtAction t := ⟨hc, hq, hclk⟩
  have hrun := repeatOp_roll_allCalls hat rfl
  set u := shownUntil _ _ _ _
  obtain ⟨-, -, -, -, hend⟩ := rollActions u hc
  rw [repeatOp_succ_of_exec (hdraw hr), repeatOp_succ_of_next hrun, hend rfl]
  rfl

end Sys2Proof.Safety

namespace Sys2Proof.Safety

open Sys2Proof.Machine

/-! ## The entry into teardown -/

/-- With nothing in flight no line write is the calling agent's own step (log entry 14). -/
theorem lineOperation_cst {l : Line} {v : Bool} {s t : State} (hq : inFlight s = false)
    (h : lineOperation l v s = .next t) : t.cst = s.cst := by
  rw [lineOperation_of_not_due (not_due_of_not_inFlight hq _)] at h
  cases h
  split <;> simp

theorem exec_wait_cst {d : Duration} {s t : State} (hq : inFlight s = false)
    (h : exec (.wait d) s = .next t) : t.cst = s.cst := by
  cases hd : Duration.legal d with
  | false => simp [exec_wait_of_illegal hd] at h
  | true =>
    rw [exec_wait_of_legal hd, if_neg fun hw => not_due_of_not_inFlight hq _ hw.1] at h
    cases h
    rfl

theorem callDisplay_cst {run : State → State} {s t : State}
    (hrun : controlView (run s) = controlView s) (h : callDisplay run s = .next t) :
    t.cst = s.cst := by
  unfold callDisplay at h
  split at h <;> cases h
  · rfl
  · exact congrArg Prod.fst hrun

theorem exec_poweron_cst {c : SuppliedConfig} {s t : State} (h : exec (.poweron c) s = .next t) :
    t.cst = s.cst ∨ t.cst = .uninit := by
  cases hc : (Config.resolve c).legal with
  | false =>
    obtain ⟨r, hr⟩ := exec_poweron_of_illegal hc s
    simp [hr] at h
  | true =>
    rw [exec_poweron_of_legal hc] at h
    cases h
    split
    · exact .inl rfl
    · exact .inr rfl

/-- Where a termination may be acted on, only `SHUTDOWN` acts on one: every other operation leaves
`CST` alone, begins a roll or constructs a block (R179, R230). -/
theorem exec_cst_ne_shuttingDown {i : Instr} {s t : State} (hi : i ≠ .shutdown)
    (hc : s.cst = .uninit ∨ s.cst = .idle) (hq : inFlight s = false) (h : exec i s = .next t) :
    t.cst ≠ .shuttingDown := by
  obtain ⟨hne, hns, hnr⟩ : s.cst ≠ .shuttingDown ∧ s.cst ≠ .setup ∧ s.cst ≠ .rolling := by
    rcases hc with hc | hc <;> simp [hc]
  obtain ⟨hsetup, hroll, -⟩ := notEnabledChangesNothing s
  cases i with
  | dataLo | dataHi | clkLo | clkHi | latLo | latHi => exact (lineOperation_cst hq h).trans_ne hne
  | wait => exact (exec_wait_cst hq h).trans_ne hne
  | shiftout | clear | showdigit =>
    exact (callDisplay_cst (sendFrame_controlView _ _ s) h).trans_ne hne
  | reset =>
    exact (callDisplay_cst (run := fun u => linesOff (sendFrame .harness Config.blank (linesOff u)))
      (resetCall_controlView .harness Config.blank s) h).trans_ne hne
  | poweron => rcases exec_poweron_cst h with e | e <;> simp [e, hne]
  | setup =>
    rw [hsetup hns] at h
    cases h
    exact hne
  | roll =>
    rw [hroll hnr] at h
    cases h
    exact hne
  | tick => cases h; split <;> exact hne
  | press =>
    cases h
    split
    · simp
    · exact hne
  | release | term => cases h; exact hne
  | shutdown => exact absurd rfl hi

/-- Of the rows of R172 only two lead into `SHUTTING_DOWN`, and both are where `SHUTDOWN` is enabled. -/
theorem Transition.shutdownEnabled {s t : State} (h : Transition s t) (hs : s.cst ≠ .shuttingDown)
    (ht : t.cst = .shuttingDown) : shutdownEnabled s = true := by
  rw [shutdownEnabled_iff]
  have hrows := h (ht.trans_ne hs.symm)
  simp only [ht, reduceCtorEq, and_false, false_and, true_and, false_or, or_false] at hrows
  obtain ⟨hc, hp⟩ | ⟨hc, hp⟩ := hrows
  · exact ⟨hp, .inl hc⟩
  · exact ⟨hp, .inr hc⟩

/-- Settles O37: the table of R172 says where the entry takes place, `ControlInv` that nothing is in
flight there, and no other operation than `SHUTDOWN` makes it. -/
theorem entryOnTermination : Obligations.EntryOnTermination := by
  unfold Obligations.EntryOnTermination
  intro i s t h hexec hs ht
  have hon : shutdownEnabled s = true :=
    (transition_execStep h (exec_cases i s t hexec)).shutdownEnabled hs ht
  obtain ⟨hp, hc⟩ := shutdownEnabled_iff.mp hon
  obtain ⟨hflight, hsact⟩ := h.quiet_of_uninit_or_idle hc
  have hq : inFlight s = false := (inFlight_eq_false_iff s).mpr ⟨hsact, hflight⟩
  obtain rfl : i = .shutdown := by
    by_contra hi
    exact exec_cst_ne_shuttingDown hi hc hq hexec ht
  rw [exec_shutdown_of_enabled hon] at hexec
  cases hexec
  exact ⟨rfl, hc, hp, hq, rfl⟩

end Sys2Proof.Safety

namespace Sys2Proof.Safety

open Sys2Proof.Machine

/-! ## What a step does with the head of the script -/

section
variable {s : State} {w : OpWord} {rest : List OpWord} {i : Instr}
  (hs : s.script = w :: rest) (hd : decode w = .ok i)
include hs hd

/-- While an operation is held, what it waits for goes on (log entry 15). -/
theorem step_of_waiting {t : State} (h : waitingStep i s = some t) : step s = .next t := by
  simp only [step, advance, hs, hd, h]

theorem step_of_executed {t : State} (hheld : held i s = false)
    (h : exec i { s with script := rest } = .next t) : step s = .next (keepUnfinished w i t) := by
  have hfree : waitingStep i s = none := by simpa [held] using hheld
  simp only [step, advance, hs, hd, hfree, h]

theorem step_of_refused {r : Refusal} (hheld : held i s = false)
    (h : exec i { s with script := rest } = .refused r) : step s = .refused r := by
  have hfree : waitingStep i s = none := by simpa [held] using hheld
  simp only [step, advance, hs, hd, hfree, h]

end

/-- Which operations run a program that a state can be inside (R174, R179, R180). -/
theorem unfinished_iff (i : Instr) (s : State) :
    unfinished i s = true ↔ (i = .setup ∧ s.cst = .setup) ∨ (i = .roll ∧ s.cst = .rolling) ∨
      (i = .shutdown ∧ s.cst = .shuttingDown) := by
  cases i <;> simp [unfinished]

/-- Settles O5: the word goes back exactly where its program is unfinished. -/
theorem stepRunsScriptOrMove : Obligations.StepRunsScriptOrMove := by
  unfold Obligations.StepRunsScriptOrMove
  refine ⟨fun s w rest i hs hd hheld => ⟨fun t ht => ?_, fun r => step_of_refused hs hd hheld⟩,
    fun s hs => ?_, fun s => ⟨rfl, rfl, rfl, rfl, fun _ => rfl⟩⟩
  · rw [step_of_executed hs hd hheld ht, keepUnfinished, if_congr (unfinished_iff i t) rfl rfl]
  · simp only [step, advance, hs]

/-! ## A run of the block itself -/

/-- The block's own operations are never refused, and neither is a word of theirs that is held
(R220). -/
theorem goesOn_of_ownScript {s : State} (ho : ownScript s) : goesOn s := by
  cases hs : s.script with
  | nil =>
    obtain ⟨t, ht, -⟩ := step_unscripted s hs
    exact ⟨t, ht⟩
  | cons w rest =>
    obtain ⟨i, hd, hown⟩ := ho w (by simp [hs])
    cases hw : waitingStep i s with
    | some t => exact ⟨t, step_of_waiting hs hd hw⟩
    | none =>
      obtain ⟨t, ht, -⟩ := exec_own_cases i { s with script := rest } hown
      exact ⟨_, step_of_executed hs hd (by simp [held, hw]) ht⟩

theorem ownScript_step {s t : State} (ho : ownScript s) (h : step s = .next t) : ownScript t :=
  ownScript_of_subset ho (step_own_cases ho h).1

/-- Settles O53: each step of such a run goes on, and leaves a script of the block's own. -/
theorem blockNeverStops : Obligations.BlockNeverStops := by
  unfold Obligations.BlockNeverStops
  intro s k ho
  induction k generalizing s with
  | zero => exact ⟨s, rfl⟩
  | succ k ih =>
    obtain ⟨t, ht⟩ := goesOn_of_ownScript ho
    obtain ⟨u, hu⟩ := ih t (ownScript_step ho ht)
    exact ⟨u, (run_succ_of_step ht k).trans hu⟩

/-! ## A digit out of range -/

theorem conditionOf_showdigit_iff (n : Int) (s : State) :
    conditionOf (.showdigit n) s = some .outOfRangeDigit ↔ n < 0 ∨ 9 < n := by
  simp only [conditionOf, ite_eq_right_iff, reduceCtorEq, imp_false]
  omega

theorem exec_showdigit_of_out_of_range {n : Int} (h : n < 0 ∨ 9 < n) (s : State) :
    exec (.showdigit n) s = exec .clear s := by
  simp only [exec, execShowdigit, execClear, patternOf_of_out_of_range n h]

/-- Settles O56: such a digit has the pattern `BLANK`, which is the frame of `CLEAR`. -/
theorem outOfRangeDigitClears : Obligations.OutOfRangeDigitClears := by
  unfold Obligations.OutOfRangeDigitClears
  exact fun n s =>
    ⟨conditionOf_showdigit_iff n s, fun h => exec_showdigit_of_out_of_range h s, rfl⟩

end Sys2Proof.Safety

namespace Sys2Proof.Safety

open Sys2Proof.Machine

/-! ## The lines at reset and in `HALTED` -/

/-- Settles O57: with nothing in flight only three clauses are left, and each is about a state of the
controller that `UNINIT` is not. -/
theorem lineInvAtReset : Obligations.LineInvAtReset := by
  unfold Obligations.LineInvAtReset
  apply lineInv_of_quiet rfl rfl
  case known => simp [displayKnown, State.reset]
  case after_reset => simp [justReset, State.reset]
  case roll_end => simp [State.reset]

/-- Nothing subscribes to the button any more, and the termination that led here is still recorded
(R31, R32, R179). -/
theorem ControlInv.halted_flags {s : State} (h : ControlInv s) (hc : s.cst = .halted) :
    s.busy = false ∧ s.armed = false ∧ s.termPending = true := by
  refine ⟨?_, ?_, h.term_acted (.inr hc)⟩
  · simp [← Bool.not_eq_true, h.busy_iff, hc]
  · simp [← Bool.not_eq_true, h.armed_iff, hc]

theorem ControlInv.quiet_of_halted {s : State} (h : ControlInv s) (hc : s.cst = .halted) :
    s.flight = .idle ∧ s.sact = false :=
  h.quiet (by simp [AtReset, hc]) (by simp [AtShow, hc])

/-- Settles O59: nothing is in flight in `HALTED`, so the `RESET` of `SHUTDOWN` is the last display
operation that has run (R179). -/
theorem haltedIsSafe : Obligations.HaltedIsSafe := by
  unfold Obligations.HaltedIsSafe
  intro s hi h hc
  obtain ⟨hflight, hsact⟩ := hi.quiet_of_halted hc
  obtain ⟨hbusy, harmed, hterm⟩ := hi.halted_flags hc
  exact ⟨h.after_reset ⟨hflight, .inl hc⟩, hbusy, harmed, hterm, hsact⟩

end Sys2Proof.Safety
